-- ==== Sys2Proof/Word.lean ====
section
/-! DEFINITION. The word types of the block (00_scope.md R6, R8: every value is unsigned, bit 0 the least significant). -/

namespace Sys2Proof

/-- A command word on `cmd[15:0]` (R60, R61). -/
abbrev CmdWord := BitVec 16

/-- A report byte (R27). -/
abbrev Byte := BitVec 8

/-- The CH field of a command word, 5 bits as encoded, 0..31 (R61, R63). The channel it selects has CH_BITS bits, a
parameter of R6. -/
abbrev Chan := BitVec 5

/-- The levels of the input port, PIN_BITS wires, a parameter of R6: a number below 2^PIN_BITS whose bit i is wire i. -/
abbrev PortLevels := Nat

/-- A sample of ADC_BITS bits, a parameter of R6: a number below 2^ADC_BITS. -/
abbrev Sample := Nat

/-- The number of an ADC channel, CH_BITS bits, a parameter of R6: a number below 2^CH_BITS. -/
abbrev Channel := Nat

/-- The SLOT field of a CONVERT, 2 bits as encoded; 3 is illegal (R61, R65). -/
abbrev Slot := BitVec 2

/-- The 32-bit view of the report (R42, R60). -/
abbrev ReportWord := BitVec 32

end Sys2Proof
end

