-- ==== Sys2Proof/Config.lean ====
section
/-! DEFINITION. The configuration record of 00_scope.md R6 and the free values. -/

namespace Sys2Proof

/-- The implementation parameters of R6, row by row. The legal values are R7's (`Config.legal` in Machine/Ops.lean). The
widths CNT_WIDTH, ADC_BITS, CH_BITS and PIN_BITS take any value R7 allows; the numbers of latches and slots are those the
spec lays out (`Config.laidOut`, log entry 22). -/
structure Config where
  /-- N_TOGGLE: the number of toggle latches. -/
  nToggle : Nat
  /-- PULSE_LENGTH: the count a trigger loads, in ticks (D20). -/
  pulseLength : Nat
  /-- CNT_WIDTH: the width of each CNT register in bits (D4). -/
  cntWidth : Nat
  /-- N_SLOT: the number of sample slots and of axis bytes. -/
  nSlot : Nat
  /-- ADC_BITS: the width of a sample. -/
  adcBits : Nat
  /-- CH_BITS: the width of the channel select; the channels are 0 .. 2^CH_BITS − 1. -/
  chBits : Nat
  /-- PIN_BITS: the width of the input port. -/
  pinBits : Nat
  /-- TOGGLE_PIN[0] (D7). -/
  togglePin0 : Nat
  /-- TOGGLE_PIN[1] (D7). -/
  togglePin1 : Nat
  /-- BUTTON_MASK (D18; conflict C1). -/
  buttonMask : Nat
  /-- BTN_INVERT: the report uses the inverted port (D19). -/
  btnInvert : Bool
  /-- SNAP_INIT, OPEN: what reset loads into SNAP (D6). -/
  snapInit : Nat
  /-- TICK_PERIOD, OPEN: the time between tick strobes, here in clock cycles; `none` is "not fixed" (D21; log entry 13).
  No operation reads it (R159). -/
  tickPeriod : Option Nat
  /-- AXIS_CH[0], the controller's choice (D27). -/
  axisCh0 : Chan
  /-- AXIS_CH[1]. -/
  axisCh1 : Chan
  /-- AXIS_CH[2]. -/
  axisCh2 : Chan
deriving DecidableEq, Repr

/-- The values R6 gives. SNAP_INIT is OPEN there: 0b00 is the model's (DESIGN CHOICE, unsafe, log entry 4: a claim
about `State.reset` that leans on it says nothing of a block with another SNAP_INIT). AXIS_CH is the controller's;
0, 1, 2 are the vectors' (DESIGN CHOICE, safe, log entry 17). -/
def Config.default : Config where
  nToggle := 2
  pulseLength := 16
  cntWidth := 8
  nSlot := 3
  adcBits := 10
  chBits := 5
  pinBits := 8
  togglePin0 := 0
  togglePin1 := 1
  buttonMask := 0x7C
  btnInvert := true
  snapInit := 0
  tickPeriod := none
  axisCh0 := 0
  axisCh1 := 1
  axisCh2 := 2

/-- FREE VALUE: `Pin()` in a cycle whose inputs do not give the port's levels, by the cycle's number (R9, D23;
DESIGN CHOICE, safe, log entry 7). Its PIN_BITS low bits are the levels. -/
opaque Config.freePin : Nat → PortLevels

/-- FREE VALUE: `AdcSample(ch)` in a cycle whose inputs do not give `adc_data`, by the cycle's number and the channel
(R9, R81, D22; DESIGN CHOICE, safe, log entry 7). Its ADC_BITS low bits are the sample. -/
opaque Config.freeAdc : Nat → Channel → Sample

/-- FREE VALUE: SMP[k] after a reset, by the number of the reset's cycle and k (R26, R30: unspecified; DESIGN CHOICE,
log entry 6: safe for one run, unsafe for a claim that compares the samples of two). Its ADC_BITS low bits are the
sample. -/
opaque Config.freeSmp : Nat → Fin 3 → Sample

end Sys2Proof
end

