-- ==== Sys2Proof/Syntax.lean ====
section
/-! DEFINITION. The operations of the block, one constructor per row of spec/opcode_table.json (R61, R62, R67). -/

namespace Sys2Proof

/-- The five command words and the three strobes. A strobe is no command word: it is an input of its own and may
coincide with a command (R67). -/
inductive Instr where
  /-- NOP (R120). -/
  | nop
  /-- CONVERT slot, ch (R80); `slot` is the field as encoded, 3 is ill-formed (R65 b). -/
  | convert (slot : Slot) (ch : Chan)
  /-- EDGE (R92). -/
  | edge
  /-- COMPOSE (R110). -/
  | compose
  /-- SETCTRL: the new TICK_EN and ADC_EN (R121). -/
  | setctrl (te ae : Bool)
  /-- TICK, the strobe `tick` = 1 (R93). -/
  | tick
  /-- READ, the strobe `rd` = 1 (R115). -/
  | read
  /-- RESET, the strobe `rst` = 1 (R150). -/
  | reset
deriving DecidableEq, Repr

/-- The three rows that are input strobes and have no command word (R67). -/
def Instr.isStrobe : Instr → Bool
  | .nop => false
  | .convert _ _ => false
  | .edge => false
  | .compose => false
  | .setctrl _ _ => false
  | .tick => true
  | .read => true
  | .reset => true

end Sys2Proof
end

