-- ==== Sys2Proof/WellFormed.lean ====
section
/-! DEFINITION. Which terms of Instr are operations of the block. -/

namespace Sys2Proof

/-- The one operand value the spec excludes: CONVERT with SLOT = 3 (R63, R65 b). -/
def Instr.wf : Instr → Bool
  | .nop => true
  | .convert slot _ => slot != 3#2
  | .edge => true
  | .compose => true
  | .setctrl _ _ => true
  | .tick => true
  | .read => true
  | .reset => true

/-- `wf` as a proposition. -/
abbrev Instr.WellFormed (i : Instr) : Prop := i.wf = true

end Sys2Proof
end

