-- ==== Sys2Proof/Decode.lean ====
section
/-! DEFINITION. The decoder of 30_encoding.md R69, total on every 16-bit word, which rejects by name, and the encoder
of R61. Only command words have an encoding in bits; the strobes have none (R67). -/

namespace Sys2Proof

/-- Why a command word is illegal: the clauses of R65. -/
inductive IllegalWord where
  /-- R65 (a): OP in 0x5..0xF. -/
  | reservedOp
  /-- R65 (b): CONVERT with SLOT = 3 (whatever bits 9:5 are). -/
  | slotThree
  /-- R65 (c): CONVERT with a bit of 9:5 set, SLOT not 3. -/
  | convertReservedBits
  /-- R65 (d): NOP, EDGE or COMPOSE with a bit of 11:0 set. -/
  | operandBits
  /-- R65 (e): SETCTRL with a bit of 11:2 set. -/
  | setctrlReservedBits
deriving DecidableEq, Repr

/-- What the decoder answers. -/
inductive Decoded where
  | legal (i : Instr)
  | illegal (why : IllegalWord)
deriving DecidableEq, Repr

/-- OP = cmd[15:12] (R61). -/
def opField (w : CmdWord) : BitVec 4 := w.extractLsb' 12 4
/-- SLOT = cmd[11:10] (R61, R63). -/
def slotField (w : CmdWord) : Slot := w.extractLsb' 10 2
/-- The reserved bits cmd[9:5] (R61). -/
def reservedField (w : CmdWord) : BitVec 5 := w.extractLsb' 5 5
/-- CH = cmd[4:0] (R61, R63). -/
def chField (w : CmdWord) : Chan := w.extractLsb' 0 5
/-- cmd[11:0], zero in NOP, EDGE and COMPOSE (R69). -/
def lowField (w : CmdWord) : BitVec 12 := w.extractLsb' 0 12
/-- cmd[11:2], zero in SETCTRL (R69). -/
def ctrlReservedField (w : CmdWord) : BitVec 10 := w.extractLsb' 2 10
/-- TE = cmd[1] (R64). -/
def teBit (w : CmdWord) : Bool := w.getLsbD 1
/-- AE = cmd[0] (R64). -/
def aeBit (w : CmdWord) : Bool := w.getLsbD 0

/-- A command without operands: legal when bits 11:0 are zero (R69). -/
def decodeBare (w : CmdWord) (i : Instr) : Decoded :=
  if lowField w = 0#12 then .legal i else .illegal .operandBits

/-- R69, OP = 0x1. -/
def decodeConvert (w : CmdWord) : Decoded :=
  if slotField w = 3#2 then .illegal .slotThree
  else if reservedField w = 0#5 then .legal (.convert (slotField w) (chField w))
  else .illegal .convertReservedBits

/-- R69, OP = 0x4. -/
def decodeSetctrl (w : CmdWord) : Decoded :=
  if ctrlReservedField w = 0#10 then .legal (.setctrl (teBit w) (aeBit w)) else .illegal .setctrlReservedBits

/-- The decoder of R69. -/
def decode (w : CmdWord) : Decoded :=
  if opField w = 0x0#4 then decodeBare w .nop
  else if opField w = 0x1#4 then decodeConvert w
  else if opField w = 0x2#4 then decodeBare w .edge
  else if opField w = 0x3#4 then decodeBare w .compose
  else if opField w = 0x4#4 then decodeSetctrl w
  else .illegal .reservedOp

/-- The instruction of a legal word. -/
def Decoded.instr? : Decoded → Option Instr
  | .legal i => some i
  | .illegal _ => none

/-- The OP value of R62 of a command; a strobe has none. -/
def Instr.opcode : Instr → Option (BitVec 4)
  | .nop => some 0x0#4
  | .convert _ _ => some 0x1#4
  | .edge => some 0x2#4
  | .compose => some 0x3#4
  | .setctrl _ _ => some 0x4#4
  | .tick => none
  | .read => none
  | .reset => none

/-- The command word of an instruction, field by field as in R61: OP, SLOT, reserved, operand bits. A strobe has no
command word (R67). An ill-formed CONVERT (SLOT = 3) is given the illegal word its fields make (R65 b). -/
def encode : Instr → Option CmdWord
  | .nop => some (0x0#4 ++ 0#12)
  | .convert slot ch => some (0x1#4 ++ slot ++ 0#5 ++ ch)
  | .edge => some (0x2#4 ++ 0#12)
  | .compose => some (0x3#4 ++ 0#12)
  | .setctrl te ae => some (0x4#4 ++ 0#10 ++ BitVec.ofBool te ++ BitVec.ofBool ae)
  | .tick => none
  | .read => none
  | .reset => none

/-- The instruction the decoder reads from a command whose bits are `w`, for the host's questions on
spec/opcode_table.json: a command is one 16-bit word, so the bits above `nbits` are zero and `w` must fit in `nbits`,
which is 1 to 16; the strobes have no bits (log entry 16). -/
def decodeTableWord (nbits w : Nat) : Option Instr :=
  if nbits = 0 then none
  else if 16 < nbits then none
  else if 2 ^ nbits ≤ w then none
  else (decode (BitVec.ofNat 16 w)).instr?

end Sys2Proof
end

