-- ==== Sys2Proof/Machine/Ports.lean ====
section
/-! DEFINITION. The input signals of one clock cycle (30_encoding.md R60, 00_scope.md R10). -/

namespace Sys2Proof.Machine

/-- The inputs of one cycle. `pin` and `adc` are the draws `Pin()` and `AdcSample(adc_ch)` of that cycle: `some v` is a
level the listing gives (`PIN=`, `ADC=`, R70), of which the port has PIN_BITS and the ADC ADC_BITS wires; `none` is one it
does not give, which is then a free value (R9, log entry 7). -/
structure Cycle where
  /-- Synchronous reset, active high. -/
  rst : Bool
  /-- 1: `cmd` carries a command this cycle. -/
  cmdValid : Bool
  /-- The command word, ignored when `cmdValid` is 0 (R66). -/
  cmd : CmdWord
  /-- Timer overflow strobe. -/
  tick : Bool
  /-- The reader's sample strobe. -/
  rd : Bool
  /-- Digital input port levels. -/
  pin : Option PortLevels
  /-- The ADC's sample of channel `adc_ch`. -/
  adc : Option Sample
deriving DecidableEq, Repr

/-- A cycle in which no agent acts (R66: no command is a NOP). -/
def Cycle.idle : Cycle where
  rst := false
  cmdValid := false
  cmd := 0#16
  tick := false
  rd := false
  pin := none
  adc := none

/-- A cycle in which the controller presents `w` and nothing else happens. -/
def Cycle.ofWord (w : CmdWord) : Cycle := { Cycle.idle with cmdValid := true, cmd := w }

/-- What stands on the command port in a cycle: the decoded word, or NOP when there is none (R66, R69). -/
def Cycle.command (c : Cycle) : Decoded := if c.cmdValid then decode c.cmd else .legal .nop

end Sys2Proof.Machine
end

