-- ==== Sys2Proof/Machine/State.lean ====
section
/-! DEFINITION. The state of the block: every register of 10_state.md R20, the model-only marks the spec adds (R29), the
configuration (R6), and the model's own fields for the inputs to come and the words READ has shown. -/

namespace Sys2Proof.Machine

/-- The model faults of 60_exceptions.md R130. Each is the spec's own: a model ends the run with it instead of guessing.
All are safe: the hardware might go on harmlessly where the model stops, so a true claim may be lost and none gained
(R131). -/
inductive Fault where
  /-- Code 1. Raised by a cycle whose valid command word is illegal (R65), and by `execConvert` on an ill-formed SLOT = 3;
  records the word. Safe (D3). -/
  | illegalCommand (word : CmdWord)
  /-- Code 2. Raised by CONVERT when CTRL.ADC_EN = 0; records slot and channel. Safe (D13). -/
  | adcDisabled (slot : Slot) (ch : Chan)
  /-- Code 3. Raised by COMPOSE when a slot has no sample since reset; records the lowest such slot. Safe (D9). -/
  | unwrittenSample (k : Fin 3)
deriving DecidableEq, Repr

/-- Why the model gives no meaning. -/
inductive Refusal where
  /-- An instruction without a meaning yet, by its mnemonic. No arm of `exec` answers with it. Safe. -/
  | notModelled (mnemonic : String)
  /-- Raised by `step` under a configuration that R7 does not allow (R133). Safe (D20). -/
  | illegalConfig
  /-- Raised by `step` under a configuration whose N_TOGGLE or N_SLOT is not the one the spec lays out SNAP, the command
  word and the report for (R24, R27, R61, R112, R114). Safe (log entry 22). -/
  | noLayout
deriving DecidableEq, Repr

/-- A toggle latch {ACT, CNT} (R22, R23): Idle when `act` is false, Pulsing when it is true. CNT is a count (log
entry 12); that it fits CNT_WIDTH bits is an invariant. -/
structure Latch where
  act : Bool
  cnt : Nat
deriving DecidableEq, Repr

/-- The state of the block. -/
@[ext]
structure State where
  /-- The configuration (R6); no step changes it. -/
  cfg : Config
  /-- ACT[0], CNT[0] (R22, R23). -/
  latch0 : Latch
  /-- ACT[1], CNT[1]. -/
  latch1 : Latch
  /-- SNAP (R24). -/
  snap : BitVec 2
  /-- CHSEL, CH_BITS bits (R25; log entry 12). -/
  chsel : Channel
  /-- SMP[0], ADC_BITS bits (R26; log entry 12). -/
  smp0 : Sample
  /-- SMP[1]. -/
  smp1 : Sample
  /-- SMP[2]. -/
  smp2 : Sample
  /-- SMPW[0], model-only (R26). -/
  smpw0 : Bool
  /-- SMPW[1]. -/
  smpw1 : Bool
  /-- SMPW[2]. -/
  smpw2 : Bool
  /-- REPORT[0] (R27). -/
  report0 : Byte
  /-- REPORT[1]. -/
  report1 : Byte
  /-- REPORT[2]. -/
  report2 : Byte
  /-- REPORT[3], the buttons. -/
  report3 : Byte
  /-- CTRL: bit 0 ADC_EN, bit 1 TICK_EN (R28). -/
  ctrl : BitVec 2
  /-- The fault mark, model-only (R29, R131; log entry 9). -/
  mark : Option Fault
  /-- The model's own: the words READ has returned, oldest first (R161; log entry 10). -/
  shown : List ReportWord
  /-- The model's own: the cycles to come, the head being the current one (R10, R21; log entry 1). -/
  pending : List Cycle
  /-- The model's own: how many cycles have run; it indexes the free values (log entry 7). -/
  clock : Nat
deriving DecidableEq, Repr

/-- The block right after reset under configuration `c` (R30), with no cycle listed. SMP is unspecified there; 0 is the
model's (DESIGN CHOICE, unsafe, log entry 5: a claim about the samples of this state would be false of a block that
comes up with others). -/
def State.resetWith (c : Config) : State where
  cfg := c
  latch0 := { act := false, cnt := 0 }
  latch1 := { act := false, cnt := 0 }
  snap := BitVec.ofNat 2 c.snapInit
  chsel := 0
  smp0 := 0
  smp1 := 0
  smp2 := 0
  smpw0 := false
  smpw1 := false
  smpw2 := false
  report0 := 0#8
  report1 := 0#8
  report2 := 0#8
  report3 := 0#8
  ctrl := 0#2
  mark := none
  shown := []
  pending := []
  clock := 0

/-- The block right after reset under the default configuration (R6, R30). -/
def State.reset : State := State.resetWith Config.default

end Sys2Proof.Machine
end

