-- ==== Sys2Proof/Machine/Ops.lean ====
section
/-! DEFINITION. The named operations over the registers, the outcome of an operation, raising a fault, the end of a
cycle. Every read and write of a register by a meaning goes through these. The block takes no exception and returns from
none (60_exceptions.md R136, R137): `raise` is the one way an operation stops. -/

namespace Sys2Proof

/-! ### The configuration -/

/-- R7: the configurations that have a meaning. -/
def Config.legal (c : Config) : Bool :=
  decide (1 ≤ c.pulseLength) && decide (c.pulseLength ≤ 2 ^ c.cntWidth - 1) &&
  decide (c.togglePin0 ≠ c.togglePin1) &&
  decide (c.togglePin0 < c.pinBits) && decide (c.togglePin1 < c.pinBits) &&
  decide (c.buttonMask < 2 ^ 8) && decide (c.snapInit < 2 ^ 2)

/-- The numbers of latches and slots the spec gives a layout for: SNAP is 2 bits (R24), the button byte has the bits of
two latches (R112), a CONVERT names slots 0..2 (R63), and the report is always three axis bytes and a button byte (R27,
R114). For any other number the spec gives no register layout (DESIGN CHOICE, safe, log entry 22). -/
def Config.laidOut (c : Config) : Bool := decide (c.nToggle = 2) && decide (c.nSlot = 3)

/-- TOGGLE_PIN[i] (R6). -/
def Config.togglePin (c : Config) (i : Fin 2) : Nat := if i = 0 then c.togglePin0 else c.togglePin1

/-- BUTTON_MASK as the 8 bits it is under a legal configuration (R7). -/
def Config.mask (c : Config) : Byte := BitVec.ofNat 8 c.buttonMask

/-- A value at the CH_BITS bits of the channel select (R6, R25). -/
def Config.atChBits (c : Config) (v : Nat) : Channel := v % 2 ^ c.chBits

/-- A value at the ADC_BITS bits of a sample (R6, R26). -/
def Config.atAdcBits (c : Config) (v : Nat) : Sample := v % 2 ^ c.adcBits

/-- A value at the PIN_BITS wires of the input port (R6, R60). -/
def Config.atPinBits (c : Config) (v : Nat) : PortLevels := v % 2 ^ c.pinBits

end Sys2Proof

namespace Sys2Proof.Machine

/-! ### Outcomes -/

/-- What an operation or a cycle answers. -/
abbrev Result := Host.Outcome State Fault Refusal

/-- `raise Fault(F)` of R9: the run ends with the fault (R131). -/
def raise (f : Fault) : Result := .fault f

/-- One operation after another; the first that stops ends the sequence. -/
def andThen (r : Result) (k : State → Result) : Result :=
  match r with
  | .next s => k s
  | .fault f => .fault f
  | .refused q => .refused q

/-- The next state of an outcome that has one. -/
def nextState (r : Result) : Option State :=
  match r with
  | .next s => some s
  | .fault _ => none
  | .refused _ => none

/-- The fault of an outcome that is one. -/
def faultOf (r : Result) : Option Fault :=
  match r with
  | .next _ => none
  | .fault f => some f
  | .refused _ => none

/-- The spec's numbers of the faults (R130). -/
def Fault.code : Fault → Nat
  | .illegalCommand _ => 1
  | .adcDisabled _ _ => 2
  | .unwrittenSample _ => 3

/-- The state a fault leaves: the fault mark is set and nothing else is written (R131). -/
def State.stop (s : State) (f : Fault) : State := { s with mark := some f }

/-! ### Reading registers -/

/-- The pair {ACT[i], CNT[i]} (R90). -/
def State.latch (s : State) (i : Fin 2) : Latch := if i = 0 then s.latch0 else s.latch1

/-- SNAP[i] (R24). -/
def State.snapBit (s : State) (i : Fin 2) : Bool := s.snap.getLsbD i.val

/-- SMP[k] (R26). -/
def State.smp (s : State) (k : Fin 3) : Sample :=
  if k = 0 then s.smp0 else if k = 1 then s.smp1 else s.smp2

/-- SMPW[k] (R26). -/
def State.smpw (s : State) (k : Fin 3) : Bool :=
  if k = 0 then s.smpw0 else if k = 1 then s.smpw1 else s.smpw2

/-- REPORT[j] (R27). -/
def State.report (s : State) (j : Fin 4) : Byte :=
  if j = 0 then s.report0 else if j = 1 then s.report1 else if j = 2 then s.report2 else s.report3

/-- CTRL.ADC_EN, bit 0 (R28). -/
def State.adcEn (s : State) : Bool := s.ctrl.getLsbD 0

/-- CTRL.TICK_EN, bit 1 (R28). -/
def State.tickEn (s : State) : Bool := s.ctrl.getLsbD 1

/-- The `report[31:0]` output, driven from the register at all times, little-endian (R42 b, R60). -/
def State.reportWord (s : State) : ReportWord := s.report3 ++ s.report2 ++ s.report1 ++ s.report0

/-- The lowest slot with no sample since reset, if any (R130). -/
def State.firstUnwritten (s : State) : Option (Fin 3) :=
  if s.smpw0 = false then some 0 else if s.smpw1 = false then some 1 else if s.smpw2 = false then some 2 else none

/-! ### Writing registers -/

/-- Both latches at one clock edge (R44 a). -/
def State.setLatches (s : State) (f : Fin 2 → Latch) : State := { s with latch0 := f 0, latch1 := f 1 }

/-- SNAP. -/
def State.setSnap (s : State) (v : BitVec 2) : State := { s with snap := v }

/-- CHSEL. -/
def State.setChsel (s : State) (ch : Channel) : State := { s with chsel := ch }

/-- SMP[k] with its mark SMPW[k] (R80). -/
def State.setSample (s : State) (k : Fin 3) (v : Sample) : State :=
  { s with
    smp0 := if k = 0 then v else s.smp0
    smp1 := if k = 1 then v else s.smp1
    smp2 := if k = 2 then v else s.smp2
    smpw0 := if k = 0 then true else s.smpw0
    smpw1 := if k = 1 then true else s.smpw1
    smpw2 := if k = 2 then true else s.smpw2 }

/-- All four REPORT bytes together (R44 b). -/
def State.setReport (s : State) (f : Fin 4 → Byte) : State :=
  { s with report0 := f 0, report1 := f 1, report2 := f 2, report3 := f 3 }

/-- CTRL, both bits (R64). -/
def State.setCtrl (s : State) (te ae : Bool) : State := { s with ctrl := BitVec.ofBool te ++ BitVec.ofBool ae }

/-- `ReportOut(w)` of R9: the reader is shown `w`. No register of the block changes. -/
def State.present (s : State) (w : ReportWord) : State := { s with shown := s.shown ++ [w] }

/-- Every register at its reset value (R30, R150). SMP, unspecified after reset, is a FREE VALUE (DESIGN CHOICE, log
entry 6). The model's own fields stay, and so does the fault mark, which no reset clears (R131). -/
def State.resetRegisters (s : State) : State :=
  { State.resetWith s.cfg with
    smp0 := s.cfg.atAdcBits (Config.freeSmp s.clock 0)
    smp1 := s.cfg.atAdcBits (Config.freeSmp s.clock 1)
    smp2 := s.cfg.atAdcBits (Config.freeSmp s.clock 2)
    mark := s.mark
    shown := s.shown
    pending := s.pending
    clock := s.clock }

/-! ### The current cycle -/

/-- The inputs of the current cycle. A list that has run out is a cycle in which no agent acts (DESIGN CHOICE, unsafe,
log entry 2: a claim about steps past the list assumes a quiet controller, timer and reader). -/
def State.cur (s : State) : Cycle := s.pending.headD Cycle.idle

/-- The end of the cycle: the next one's inputs come, and the free values are fresh ones. -/
def State.endCycle (s : State) : State := { s with pending := s.pending.tail, clock := s.clock + 1 }

end Sys2Proof.Machine
end

