-- ==== Sys2Proof/Machine/Operands.lean ====
section
/-! DEFINITION. What the operations read: the slot operand, the two draws of a cycle, the toggle pins, and the byte
computations of the report (R9, R63, R91, R111, R112). -/

namespace Sys2Proof.Machine

/-- The slot a SLOT field names: 0..2, and none for 3 (R63). -/
def slotIndex (slot : Slot) : Option (Fin 3) :=
  if slot = 0#2 then some 0 else if slot = 1#2 then some 1 else if slot = 2#2 then some 2 else none

/-- `Pin()` in the current cycle: the level the cycle gives, else a FREE VALUE (R9, D23; DESIGN CHOICE, safe, log
entry 7). One draw a cycle: every reader of the cycle sees the same levels (R10). -/
def State.pin (s : State) : PortLevels := s.cfg.atPinBits (s.cur.pin.getD (Config.freePin s.clock))

/-- The channel a CH field selects (R63, R80): all 32 values of the field are channels when CH_BITS is 5 or more; a
narrower channel select takes its low CH_BITS bits (DEDUCED, unsafe, log entry 21). -/
def channelOf (c : Config) (ch : Chan) : Channel := c.atChBits ch.toNat

/-- `AdcSample(ch)` in the current cycle: `adc_data` where the cycle gives it, else a FREE VALUE (R9, R81, D22; DESIGN
CHOICE, safe, log entry 7). -/
def State.adcSample (s : State) (ch : Channel) : Sample :=
  s.cfg.atAdcBits (s.cur.adc.getD (Config.freeAdc s.clock ch))

/-- `p[TOGGLE_PIN[i]]` (R91). -/
def toggleLevel (c : Config) (p : PortLevels) (i : Fin 2) : Bool := p.testBit (c.togglePin i)

/-- The two toggle levels as EDGE records them in SNAP (R92). -/
def snapOf (c : Config) (p : PortLevels) : BitVec 2 :=
  BitVec.ofBool (toggleLevel c p 1) ++ BitVec.ofBool (toggleLevel c p 0)

/-- `axis(v) := v[9:2]` (R111), which is `v >> 2` for a sample of 10 bits or fewer; for a wider one the field is the bits
R111 names (DEDUCED, unsafe, log entry 21). -/
def axis (v : Sample) : Byte := BitVec.ofNat 8 (v / 4)

/-- The port as the report uses it, inverted when BTN_INVERT = 1, at 8 bits (R112). The complement is at the port's width
(R8), so a port of fewer than 8 wires has 0 above them (DEDUCED, unsafe, log entry 21). -/
def rawButtons (c : Config) (p : PortLevels) : Byte :=
  BitVec.ofNat 8 (if c.btnInvert then (2 ^ c.pinBits - 1) ^^^ p else p)

/-- The button byte (R112): latch 0 at bit 1, latch 1 at bit 0. -/
def buttons (c : Config) (p : PortLevels) (a0 a1 : Bool) : Byte :=
  (rawButtons c p &&& c.mask) ||| ((BitVec.ofBool a0).zeroExtend 8 <<< 1) ||| (BitVec.ofBool a1).zeroExtend 8

/-- The four bytes COMPOSE writes, from the pre-cycle registers and the port (R41, R110). -/
def State.composed (s : State) (j : Fin 4) : Byte :=
  if j = 0 then axis s.smp0
  else if j = 1 then axis s.smp1
  else if j = 2 then axis s.smp2
  else buttons s.cfg s.pin s.latch0.act s.latch1.act

end Sys2Proof.Machine
end

