-- ==== Sys2Proof/Machine/Flags.lean ====
section
/-! DEFINITION. The block's only flags are ACT[0] and ACT[1] (10_state.md R29): how an edge sets one and how a tick
clears one, each with the count of the same latch. -/

namespace Sys2Proof.Machine

/-- The edge function of R91 for channel i, on the current cycle's port and the pre-cycle SNAP. -/
def State.edgeSeen (s : State) (i : Fin 2) : Bool := xor (toggleLevel s.cfg s.pin i) (s.snapBit i)

/-- A trigger loads the full PULSE_LENGTH whatever the latch held (R92, R95). -/
def Latch.trigger (c : Config) : Latch := { act := true, cnt := c.pulseLength }

/-- The countdown of one latch under one applied tick (R94): guarded, so it cannot underflow (C3); ACT is cleared when
the count reaches 0. -/
def Latch.countdown (l : Latch) : Latch :=
  if l.cnt = 0 then l else { act := if l.cnt - 1 = 0 then false else l.act, cnt := l.cnt - 1 }

end Sys2Proof.Machine
end

