-- ==== Sys2Proof/Machine/AdcMux.lean ====
section
/-! DEFINITION. The ADC multiplexer: CONVERT and the `adc_ch` output (40_adc_mux.md R80, 30_encoding.md R60). -/

namespace Sys2Proof.Machine

/-- The capture of one sample (R80): the channel select and the slot are written at one clock edge (R44 d). -/
def capture (k : Fin 3) (ch : Channel) (s : State) : Result := .next ((s.setChsel ch).setSample k (s.adcSample ch))

/-- CONVERT slot, ch (R80): AdcDisabled when ADC_EN was 0, else the capture. The
ill-formed SLOT = 3 is the illegal word of those fields, and its fault comes first because an illegal word is not a
CONVERT (R65 b, R132; DEDUCED, safe, log entry 15). -/
def execConvert (slot : Slot) (ch : Chan) (s : State) : Result :=
  match slotIndex slot with
  | none => raise (.illegalCommand (0x1#4 ++ slot ++ 0#5 ++ ch))
  | some k => if s.adcEn then capture k (channelOf s.cfg ch) s else raise (.adcDisabled slot ch)

/-- The multiplexer select output `adc_ch[4:0]` in the current cycle, CH_BITS wires: the CH field of a CONVERT, else CHSEL (R25,
R60). Under `rst` the command is ignored (R150), so CHSEL drives it (DEDUCED, unsafe, log entry 14). -/
def State.adcCh (s : State) : Channel :=
  if s.cur.rst then s.chsel
  else
    match s.cur.command with
    | .legal (.convert _ ch) => channelOf s.cfg ch
    | .legal _ => s.chsel
    | .illegal _ => s.chsel

end Sys2Proof.Machine
end

