-- ==== Sys2Proof/Machine/Control.lean ====
section
/-! DEFINITION. The control family: NOP, SETCTRL (43_control.md) and the reset strobe (70_reset_and_hazards.md R150). -/

namespace Sys2Proof.Machine

/-- NOP (R120): the command writes no register. -/
def execNop (s : State) : Result := .next s

/-- SETCTRL (R121): both control bits are written; ACT, CNT, SMP and SMPW are untouched. -/
def execSetctrl (te ae : Bool) (s : State) : Result := .next (s.setCtrl te ae)

/-- RESET (R150): every register takes its reset value. -/
def execReset (s : State) : Result := .next s.resetRegisters

end Sys2Proof.Machine
end

