-- ==== Sys2Proof/Machine/Debouncer.lean ====
section
/-! DEFINITION. The toggle debouncer: EDGE and TICK (41_debouncer.md R92, R93). -/

namespace Sys2Proof.Machine

/-- EDGE (R92): each channel with an edge is triggered, the others are left; SNAP records the toggle pins. It does not
depend on CTRL and never clears ACT. -/
def execEdge (s : State) : Result :=
  .next ((s.setLatches fun i => if s.edgeSeen i then Latch.trigger s.cfg else s.latch i).setSnap (snapOf s.cfg s.pin))

/-- TICK (R93): with TICK_EN = 1 every latch counts down; with TICK_EN = 0 the tick is dropped and nothing remembers it
(R134). That a same-cycle trigger wins over it is R47's, and follows from the order of R48 in Machine/Cycle.lean. -/
def execTick (s : State) : Result := .next (if s.tickEn then s.setLatches fun i => (s.latch i).countdown else s)

end Sys2Proof.Machine
end

