-- ==== Sys2Proof/Machine/ReportPacker.lean ====
section
/-! DEFINITION. The report packer: COMPOSE and READ (42_report.md R110, R115). -/

namespace Sys2Proof.Machine

/-- COMPOSE (R110): UnwrittenSample with the lowest unwritten slot, else all four report bytes are overwritten. -/
def execCompose (s : State) : Result :=
  match s.firstUnwritten with
  | some k => raise (.unwrittenSample k)
  | none => .next (s.setReport s.composed)

/-- READ (R115): the reader is shown the report; no register is written. -/
def execRead (s : State) : Result := .next (s.present s.reportWord)

end Sys2Proof.Machine
end

