-- ==== Sys2Proof/Machine/Dispatch.lean ====
section
/-! DEFINITION. One arm per constructor of Instr. -/

namespace Sys2Proof.Machine

def exec (i : Instr) (s : State) : Host.Outcome State Fault Refusal :=
  match i with
  | .nop => Sys2Proof.Machine.execNop s
  | .convert slot ch => Sys2Proof.Machine.execConvert slot ch s
  | .edge => Sys2Proof.Machine.execEdge s
  | .compose => Sys2Proof.Machine.execCompose s
  | .setctrl te ae => Sys2Proof.Machine.execSetctrl te ae s
  | .tick => Sys2Proof.Machine.execTick s
  | .read => Sys2Proof.Machine.execRead s
  | .reset => Sys2Proof.Machine.execReset s

end Sys2Proof.Machine
end

