-- ==== Sys2Proof/Machine/Cycle.lean ====
section
/-! DEFINITION. One clock cycle as the sequence of single operations that 20_memory.md R48 gives, and the encoding of
an operation as the inputs of a cycle. -/

namespace Sys2Proof.Machine

/-- The operations of a cycle without `rst` whose command is `i`, in the order of R48: READ, COMPOSE, TICK, any other
command. -/
def Cycle.serial (c : Cycle) (i : Instr) : List Instr :=
  (if c.rd then [.read] else []) ++
  (if i = .compose then [.compose] else []) ++
  (if c.tick then [.tick] else []) ++
  (if i = .compose then [] else [i])

/-- The operations of a cycle with `rst`: the command and the tick are ignored, a READ still sees the report before the
reset (R47, R150). -/
def Cycle.resetSerial (c : Cycle) : List Instr := (if c.rd then [.read] else []) ++ [.reset]

/-- The operations of any cycle, or the illegal word that ends it (R65, R135). -/
def Cycle.operations (c : Cycle) : Except Fault (List Instr) :=
  if c.rst then .ok c.resetSerial
  else
    match c.command with
    | .legal i => .ok (c.serial i)
    | .illegal _ => .error (.illegalCommand c.cmd)

/-- One operation after another, each on the state the one before it left. -/
def execAll : List Instr → State → Result
  | [], s => .next s
  | i :: is, s => andThen (exec i s) (execAll is)

/-- One clock cycle on the current inputs (R10, R47, R48). A fault of the command ends it with nothing written. -/
def runCycle (s : State) : Result :=
  match s.cur.operations with
  | .error f => raise f
  | .ok is => andThen (execAll is s) fun t => .next t.endCycle

/-- The block's step. A configuration that R7 does not allow has no meaning, whatever the state (R133), and neither has
one of sizes the spec gives no layout for (log entry 22). A marked state has stopped: no later cycle is modelled, not even
one with `rst` (R131). -/
def clockEdge (s : State) : Result :=
  if s.cfg.legal then
    if s.cfg.laidOut then
      match s.mark with
      | some f => raise f
      | none => runCycle s
    else .refused .noLayout
  else .refused .illegalConfig

/-- The inputs of a cycle in which the single operation `i` happens, its draws being `p` and `a`. -/
def Cycle.ofInstr (i : Instr) (p : Option PortLevels) (a : Option Sample) : Cycle :=
  { Cycle.idle with
    rst := decide (i = .reset)
    tick := decide (i = .tick)
    rd := decide (i = .read)
    cmdValid := (encode i).isSome
    cmd := (encode i).getD 0#16
    pin := p
    adc := a }

/-- `s` with the command word whose bits are `w` on the command port in the current cycle, nothing else happening in it
and its draws free; the cycles after it stay (log entry 1). Bits above `nbits` are zero. -/
def State.presentWord (s : State) (nbits w : Nat) : State :=
  { s with pending := Cycle.ofWord (BitVec.ofNat 16 (w % 2 ^ nbits)) :: s.pending.tail }

end Sys2Proof.Machine
end

