-- ==== Sys2Proof/Machine/Listing.lean ====
section
/-! DEFINITION. The assembler of 30_encoding.md R70 and the pseudo-instructions of R71: from the text of a listing line
to the cycles it stands for. It refuses an operand out of range. -/

namespace Sys2Proof.Machine

/-- The mnemonics of R70 and the pseudo-instructions of R71, with operands as written. -/
inductive Asm where
  | nop
  | convert (slot ch : Nat)
  | edge
  | compose
  | setctrl (imm2 : Nat)
  | iter (c0 c1 c2 : Nat)
  | enable
  | disable
  | adcInit
deriving DecidableEq, Repr

/-- A listing line: a statement, if any, and the port events after `;;` (R70). -/
structure Line where
  op : Option Asm
  tick : Bool
  read : Bool
  reset : Bool
  pin : Option Nat
  adc : Option Nat
deriving DecidableEq, Repr

/-- SETCTRL imm2: bit 0 is ADC_EN, bit 1 is TICK_EN (R70). -/
def setctrlOf (imm2 : Nat) : Instr := .setctrl (imm2.testBit 1) (imm2.testBit 0)

/-- `CONVERT slot, ch` of R70. -/
def convertOf (slot ch : Nat) : Instr := .convert (BitVec.ofNat 2 slot) (BitVec.ofNat 5 ch)

/-- The commands a statement stands for, one a cycle; none when an operand is out of range (R70, R71). -/
def Asm.expand : Asm → Option (List Instr)
  | .nop => some [.nop]
  | .convert slot ch => if slot < 3 ∧ ch < 32 then some [convertOf slot ch] else none
  | .edge => some [.edge]
  | .compose => some [.compose]
  | .setctrl imm2 => if imm2 < 4 then some [setctrlOf imm2] else none
  | .iter c0 c1 c2 =>
    if c0 < 32 ∧ c1 < 32 ∧ c2 < 32 then
      some [convertOf 0 c0, convertOf 1 c1, convertOf 2 c2, .edge, .compose]
    else none
  | .enable => some [setctrlOf 3]
  | .disable => some [setctrlOf 0]
  | .adcInit => some [setctrlOf 1]

/-- The words a statement assembles to (R61, R70). -/
def Asm.words (a : Asm) : Option (List CmdWord) := a.expand.bind fun is => is.mapM encode

/-- One iteration of the controller's loop on its configured channels (R83, R158, AXIS_CH of R6). -/
def iteration (c : Config) : Asm := .iter c.axisCh0.toNat c.axisCh1.toNat c.axisCh2.toNat

/-- The line has a port event or a given input. -/
def Line.hasEvents (l : Line) : Bool := l.tick || l.read || l.reset || l.pin.isSome || l.adc.isSome

/-- A given input value, which must fit the `w` wires it is for (R70). -/
def fits (w : Nat) : Option Nat → Bool
  | none => true
  | some v => decide (v < 2 ^ w)

/-- The cycle of a line whose command word is `w`, or that has no command. -/
def Line.cycle (l : Line) (w : Option CmdWord) : Cycle where
  rst := l.reset
  cmdValid := w.isSome
  cmd := w.getD 0#16
  tick := l.tick
  rd := l.read
  pin := l.pin
  adc := l.adc

/-- The cycles of a line. `PIN=` must fit the port and `ADC=` a sample: 8 and 10 bits (R70), which are PIN_BITS and
ADC_BITS of R6. A pseudo-instruction of several cycles takes no port event, for R70 does not say in which of its cycles the
event falls (DESIGN CHOICE, safe, log entry 18). -/
def Line.cycles (c : Config) (l : Line) : Option (List Cycle) :=
  if fits c.pinBits l.pin && fits c.adcBits l.adc then
    match l.op with
    | none => some [l.cycle none]
    | some op =>
      match op.words with
      | none => none
      | some [w] => some [l.cycle (some w)]
      | some ws => if l.hasEvents then none else some (ws.map Cycle.ofWord)
  else none

/-! ### The text of a line -/

/-- One character as a decimal or hexadecimal digit. -/
def digit (c : Char) : Option Nat :=
  if '0'.toNat ≤ c.toNat ∧ c.toNat ≤ '9'.toNat then some (c.toNat - '0'.toNat)
  else if 'a'.toNat ≤ c.toNat ∧ c.toNat ≤ 'f'.toNat then some (c.toNat - 'a'.toNat + 10)
  else if 'A'.toNat ≤ c.toNat ∧ c.toNat ≤ 'F'.toNat then some (c.toNat - 'A'.toNat + 10)
  else none

/-- Digits in a base, most significant first, after `acc`. -/
def digits (base : Nat) : List Char → Nat → Option Nat
  | [], acc => some acc
  | c :: cs, acc =>
    match digit c with
    | some d => if d < base then digits base cs (acc * base + d) else none
    | none => none

/-- A number, decimal or `0x` hexadecimal (R70). -/
def number : List Char → Option Nat
  | [] => none
  | ['0', 'x'] => none
  | '0' :: 'x' :: cs => digits 16 cs 0
  | cs => digits 10 cs 0

/-- Words, commas and semicolons of a line; `acc` is the word being read, last character first. -/
def tokens : List Char → List Char → List (List Char)
  | acc, [] => if acc = [] then [] else [acc.reverse]
  | acc, c :: cs =>
    if c = ' ' then (if acc = [] then [] else [acc.reverse]) ++ tokens [] cs
    else if c = ',' ∨ c = ';' then (if acc = [] then [] else [acc.reverse]) ++ [c] :: tokens [] cs
    else tokens (c :: acc) cs

/-- The tokens before `;;` and those after it. -/
def splitEvents : List (List Char) → List (List Char) × List (List Char)
  | [] => ([], [])
  | t :: ts =>
    if t = [';'] then
      match ts with
      | u :: us => if u = [';'] then ([], us) else (t :: (splitEvents ts).1, (splitEvents ts).2)
      | [] => ([t], [])
    else (t :: (splitEvents ts).1, (splitEvents ts).2)

/-- The mnemonics without operands. -/
def bareStatement (t : List Char) : Option Asm :=
  if t = ['N', 'O', 'P'] then some .nop
  else if t = ['E', 'D', 'G', 'E'] then some .edge
  else if t = ['C', 'O', 'M', 'P', 'O', 'S', 'E'] then some .compose
  else if t = ['E', 'N', 'A', 'B', 'L', 'E'] then some .enable
  else if t = ['D', 'I', 'S', 'A', 'B', 'L', 'E'] then some .disable
  else if t = ['A', 'D', 'C', '_', 'I', 'N', 'I', 'T'] then some .adcInit
  else none

/-- The statement of a line: nothing, or a mnemonic with its operands (R70, R71). -/
def statement : List (List Char) → Option (Option Asm)
  | [] => some none
  | [t] => (bareStatement t).map some
  | [t, a] =>
    if t = ['S', 'E', 'T', 'C', 'T', 'R', 'L'] then (number a).map fun n => some (.setctrl n) else none
  | [t, a, [','], b] =>
    if t = ['C', 'O', 'N', 'V', 'E', 'R', 'T'] then
      match number a, number b with
      | some m, some n => some (some (.convert m n))
      | _, _ => none
    else none
  | [t, a, [','], b, [','], c] =>
    if t = ['I', 'T', 'E', 'R'] then
      match number a, number b, number c with
      | some l, some m, some n => some (some (.iter l m n))
      | _, _, _ => none
    else none
  | _ => none

/-- One port event added to a line (R70). -/
def addEvent (l : Line) : List Char → Option Line
  | ['T', 'I', 'C', 'K'] => some { l with tick := true }
  | ['R', 'E', 'A', 'D'] => some { l with read := true }
  | ['R', 'E', 'S', 'E', 'T'] => some { l with reset := true }
  | 'P' :: 'I' :: 'N' :: '=' :: cs => (number cs).map fun v => { l with pin := some v }
  | 'A' :: 'D' :: 'C' :: '=' :: cs => (number cs).map fun v => { l with adc := some v }
  | _ => none

/-- The port events of a line, in the order written. -/
def addEvents : List (List Char) → Line → Option Line
  | [], l => some l
  | t :: ts, l => (addEvent l t).bind (addEvents ts)

/-- A line of text, as its characters (R70). -/
def parseLine (text : List Char) : Option Line :=
  let parts := splitEvents (tokens [] text)
  (statement parts.1).bind fun op =>
    addEvents parts.2 { op := op, tick := false, read := false, reset := false, pin := none, adc := none }

/-- The cycles a line of text stands for (R70). -/
def assembleLine (c : Config) (text : List Char) : Option (List Cycle) := (parseLine text).bind (Line.cycles c)

end Sys2Proof.Machine
end

