-- ==== Sys2Proof/Machine/SameCycle.lean ====
section
/-! DEFINITION. The same-cycle resolution of 20_memory.md R47, transcribed register by register: every read is of the
state before the clock edge. The step does not use it; that the step, which runs the operations one after another (R48),
equals it is an obligation. -/

namespace Sys2Proof.Machine

/-- The fault condition of a legal command on the pre-cycle state (R130). -/
def commandFault (s : State) : Instr → Option Fault
  | .nop => none
  | .convert slot ch => if s.adcEn = false then some (.adcDisabled slot ch) else none
  | .edge => none
  | .compose => s.firstUnwritten.map .unwrittenSample
  | .setctrl _ _ => none
  | .tick => none
  | .read => none
  | .reset => none

/-- R47's new {ACT[i], CNT[i]}: the trigger first, else an applied tick, else unchanged. -/
def resolvedLatch (s : State) (i : Instr) (j : Fin 2) : Latch :=
  if i = .edge ∧ s.pin.testBit (s.cfg.togglePin j) ≠ s.snapBit j then
    { act := true, cnt := s.cfg.pulseLength }
  else if s.cur.tick = true ∧ s.tickEn = true ∧ (s.latch j).cnt ≠ 0 then
    { act := if (s.latch j).cnt - 1 = 0 then false else (s.latch j).act, cnt := (s.latch j).cnt - 1 }
  else s.latch j

/-- R47's new SNAP. -/
def resolvedSnap (s : State) : Instr → BitVec 2
  | .edge =>
    BitVec.ofBool (s.pin.testBit (s.cfg.togglePin 1)) ++ BitVec.ofBool (s.pin.testBit (s.cfg.togglePin 0))
  | _ => s.snap

/-- R47's new CHSEL. -/
def resolvedChsel (s : State) : Instr → Channel
  | .convert _ ch => channelOf s.cfg ch
  | _ => s.chsel

/-- R47's new SMP[k]. -/
def resolvedSmp (s : State) (k : Fin 3) : Instr → Sample
  | .convert slot ch => if slot.toNat = k.val then s.adcSample (channelOf s.cfg ch) else s.smp k
  | _ => s.smp k

/-- R47's new SMPW[k]. -/
def resolvedSmpw (s : State) (k : Fin 3) : Instr → Bool
  | .convert slot _ => if slot.toNat = k.val then true else s.smpw k
  | _ => s.smpw k

/-- R47's new REPORT[j], from the pre-cycle samples and latches (R110). -/
def resolvedReport (s : State) (j : Fin 4) : Instr → Byte
  | .compose => s.composed j
  | _ => s.report j

/-- R47's new CTRL. -/
def resolvedCtrl (s : State) : Instr → BitVec 2
  | .setctrl te ae => BitVec.ofBool te ++ BitVec.ofBool ae
  | _ => s.ctrl

/-- What the reader has been shown after the cycle: READ returns the pre-cycle report (R115). -/
def resolvedShown (s : State) : List ReportWord :=
  if s.cur.rd then s.shown ++ [s.reportWord] else s.shown

/-- The next state of a cycle without `rst` whose command is `i` and meets no fault. -/
def resolvedState (s : State) (i : Instr) : State where
  cfg := s.cfg
  latch0 := resolvedLatch s i 0
  latch1 := resolvedLatch s i 1
  snap := resolvedSnap s i
  chsel := resolvedChsel s i
  smp0 := resolvedSmp s 0 i
  smp1 := resolvedSmp s 1 i
  smp2 := resolvedSmp s 2 i
  smpw0 := resolvedSmpw s 0 i
  smpw1 := resolvedSmpw s 1 i
  smpw2 := resolvedSmpw s 2 i
  report0 := resolvedReport s 0 i
  report1 := resolvedReport s 1 i
  report2 := resolvedReport s 2 i
  report3 := resolvedReport s 3 i
  ctrl := resolvedCtrl s i
  mark := s.mark
  shown := resolvedShown s
  pending := s.pending.tail
  clock := s.clock + 1

/-- The next state of a cycle with `rst` (R30, R150); SMP is the free value there. -/
def resolvedReset (s : State) : State :=
  { State.resetWith s.cfg with
    smp0 := s.cfg.atAdcBits (Config.freeSmp s.clock 0)
    smp1 := s.cfg.atAdcBits (Config.freeSmp s.clock 1)
    smp2 := s.cfg.atAdcBits (Config.freeSmp s.clock 2)
    mark := s.mark
    shown := resolvedShown s
    pending := s.pending.tail
    clock := s.clock + 1 }

/-- R47 with the priorities of R135: `rst`, then a fault of the command, then every register at once. -/
def sameCycle (s : State) : Result :=
  if s.cur.rst then .next (resolvedReset s)
  else
    match s.cur.command with
    | .illegal _ => .fault (.illegalCommand s.cur.cmd)
    | .legal i =>
      match commandFault s i with
      | some f => .fault f
      | none => .next (resolvedState s i)

end Sys2Proof.Machine
end

