-- ==== Sys2Proof/Safety.lean ====
section
/-! DEFINITION. The terms claims are stated in: the latch invariant, what happens in a cycle, runs and how they end. -/

namespace Sys2Proof.Machine

/-! ### Invariants -/

/-- R98 for one latch: ACT = 1 exactly when CNT ≠ 0, and CNT ≤ PULSE_LENGTH. -/
def Latch.Sound (c : Config) (l : Latch) : Prop := (l.act = true ↔ l.cnt ≠ 0) ∧ l.cnt ≤ c.pulseLength

/-- R98 for both latches. -/
def State.LatchesSound (s : State) : Prop := s.latch0.Sound s.cfg ∧ s.latch1.Sound s.cfg

/-- The state a claim starts from: a legal configuration (R7) of the sizes the spec lays out (log entry 22), and no fault
so far (R131). -/
structure State.Live (s : State) : Prop where
  legal : s.cfg.legal = true
  laidOut : s.cfg.laidOut = true
  unmarked : s.mark = none

/-- CHSEL and the samples fit the widths CH_BITS and ADC_BITS (R6, R25, R26). -/
structure State.WidthsFit (s : State) : Prop where
  chsel : s.chsel < 2 ^ s.cfg.chBits
  smp : ∀ k, s.smp k < 2 ^ s.cfg.adcBits

/-- Every register has the reset value of R30: SNAP has the configuration's SNAP_INIT, and nothing is said of SMP, which
is unspecified. -/
structure State.RegistersReset (t : State) : Prop where
  latches : ∀ i, t.latch i = { act := false, cnt := 0 }
  snap : t.snap = BitVec.ofNat 2 t.cfg.snapInit
  chsel : t.chsel = 0
  marks : ∀ k, t.smpw k = false
  report : ∀ j, t.report j = 0#8
  ctrl : t.adcEn = false ∧ t.tickEn = false

/-! ### What the current cycle does -/

/-- The cycle is a reset (R150). -/
def State.resets (s : State) : Bool := s.cur.rst

/-- The command of the cycle is `i` (no `rst`). -/
def State.commands (s : State) (i : Instr) : Bool := !s.cur.rst && decide (s.cur.command = .legal i)

/-- The command of the cycle is an EDGE that triggers latch i (R47, R91). -/
def State.triggers (s : State) (i : Fin 2) : Bool := s.commands .edge && s.edgeSeen i

/-- The cycle carries an applied tick: `tick` = 1 and TICK_EN = 1 (R97). -/
def State.ticks (s : State) : Bool := !s.cur.rst && s.cur.tick && s.tickEn

/-- The cycle converts into slot k (R80). -/
def State.convertsTo (s : State) (k : Fin 3) : Bool :=
  !s.cur.rst &&
  match s.cur.command with
  | .legal (.convert slot _) => decide (slotIndex slot = some k)
  | .legal _ => false
  | .illegal _ => false

/-! ### Runs -/

/-- `n` cycles from `s`. -/
def run : Nat → State → Result
  | 0, s => .next s
  | n + 1, s => andThen (step s) (run n)

/-- In how many of the next `n` cycles `p` holds of the state before the cycle. -/
def countAlong (p : State → Bool) : Nat → State → Nat
  | 0, _ => 0
  | n + 1, s =>
    (if p s then 1 else 0) +
    match step s with
    | .next t => countAlong p n t
    | .fault _ => 0
    | .refused _ => 0

/-- `p` holds before none of the next `n` cycles. -/
def NeverAlong (p : State → Bool) (n : Nat) (s : State) : Prop := countAlong p n s = 0

/-- How a run ends (R131, R161): with what its READs returned and its last state, with the stopped state and its fault,
or without a meaning. -/
inductive RunEnd where
  | success (reads : List ReportWord) (last : State)
  | faulted (stopped : State) (f : Fault)
  | refused (why : Refusal)
deriving DecidableEq, Repr

/-- The run over a finite list of cycles (R161): a fault ends it at its cycle, with the mark set and nothing else
written. -/
def runCycles : List Cycle → State → RunEnd
  | [], s => .success s.shown s
  | c :: cs, s =>
    match step { s with pending := c :: cs } with
    | .next t => runCycles cs t
    | .fault f => .faulted (s.stop f) f
    | .refused q => .refused q

/-- R161: a run starts with a cycle with `rst` = 1. -/
def startsWithReset (cs : List Cycle) : Bool := (cs.head?.map Cycle.rst).getD false

/-- The strobes of the next `n` listed cycles come with period `P`, the first `d` cycles from now counted from 1 (R99). -/
def TicksEvery (P d n : Nat) (cs : List Cycle) : Prop :=
  ∀ k, k < n → (((cs[k]?).getD Cycle.idle).tick = true ↔ d ≤ k + 1 ∧ (k + 1 - d) % P = 0)

end Sys2Proof.Machine
end

