-- ==== Sys2Proof/Certificates/Slice0/Obligations.lean ====
section
/-! DEFINITION. The statements for the provers. A frame is written as "putting the named fields back gives the state
before": every field of State but the named ones is unchanged. The block has no memory (R40). -/

open Sys2Proof Sys2Proof.Machine

/-! ### Reset -/

/-- RESET completes in every state and leaves every register at its reset value (R30); SMP is unspecified there, so nothing
is said of it. That the configuration, the fault mark and the model's own fields stay is the model's choice (log entry
20). -/
def Obligations.ResetGivesResetValues : Prop :=
  ∀ s : State, ∃ t, exec .reset s = .next t ∧ t.RegistersReset ∧
    t.cfg = s.cfg ∧ t.mark = s.mark ∧ t.shown = s.shown ∧ t.pending = s.pending ∧ t.clock = s.clock

/-- `State.reset` has the values of R30 under the default configuration, which is legal. The model's choices: SNAP = 0b00
from SNAP_INIT = 0b00 (log entry 4) and SMP = 0 (log entry 5). -/
def Obligations.ResetStateHasResetValues : Prop :=
  State.reset.RegistersReset ∧ State.reset.Live ∧ State.reset.snap = 0#2 ∧ (∀ k, State.reset.smp k = 0) ∧
    State.reset.pending = [] ∧ State.reset.shown = []

/-- In a cycle with `rst` the command and the tick are ignored and no fault is raised, every register takes its reset value,
and a same-cycle READ returns the report before the reset (R150). That the reset keeps the configuration and the words
shown before is the model's choice (log entries 10 and 20). -/
def Obligations.ResetCycleOverridesAll : Prop :=
  ∀ s : State, s.Live → s.cur.rst = true →
    ∃ t, step s = .next t ∧ t.RegistersReset ∧ t.cfg = s.cfg ∧ t.mark = none ∧
      t.shown = (if s.cur.rd then s.shown ++ [s.reportWord] else s.shown) ∧ t.pending = s.pending.tail

/-! ### Decoding -/

/-- The decoder on the words of the spec's table 95_test_vectors.md 2.1. -/
def Obligations.DecoderReadsListedWords : Prop :=
  decode 0x0000#16 = .legal .nop ∧ decode 0x1000#16 = .legal (.convert 0 0) ∧
  decode 0x101F#16 = .legal (.convert 0 31) ∧ decode 0x1405#16 = .legal (.convert 1 5) ∧
  decode 0x181F#16 = .legal (.convert 2 31) ∧ decode 0x2000#16 = .legal .edge ∧
  decode 0x3000#16 = .legal .compose ∧ decode 0x4000#16 = .legal (.setctrl false false) ∧
  decode 0x4003#16 = .legal (.setctrl true true) ∧
  [0x0001#16, 0x1C00#16, 0x1020#16, 0x1BFF#16, 0x2001#16, 0x3800#16, 0x4004#16, 0x5000#16, 0xFFFF#16].all
    (fun w => (decode w).instr?.isNone) = true

/-- The decoder is the match and mask table of R61, on every word; a strobe is no command word. -/
def Obligations.DecoderFollowsMatchAndMask : Prop :=
  ∀ w : CmdWord,
    (decode w = .legal .nop ↔ w &&& 0xFFFF#16 = 0x0000#16) ∧
    (∀ slot ch, decode w = .legal (.convert slot ch) ↔
      w &&& 0xF3E0#16 = 0x1000#16 ∧ slot ≠ 3#2 ∧ slot.toNat = w.toNat / 1024 % 4 ∧ ch.toNat = w.toNat % 32) ∧
    (decode w = .legal .edge ↔ w &&& 0xFFFF#16 = 0x2000#16) ∧
    (decode w = .legal .compose ↔ w &&& 0xFFFF#16 = 0x3000#16) ∧
    (∀ te ae, decode w = .legal (.setctrl te ae) ↔
      w &&& 0xFFFC#16 = 0x4000#16 ∧ te = w.getLsbD 1 ∧ ae = w.getLsbD 0) ∧
    decode w ≠ .legal .tick ∧ decode w ≠ .legal .read ∧ decode w ≠ .legal .reset

/-- Every well-formed command has a word, and decoding that word gives it back with every operand. -/
def Obligations.DecodeInvertsEncode : Prop :=
  ∀ i : Instr, i.WellFormed → i.isStrobe = false → ∃ w, encode i = some w ∧ decode w = .legal i

/-- A word that decodes is the word of the well-formed command it decodes to. -/
def Obligations.EncodeInvertsDecode : Prop :=
  ∀ (w : CmdWord) (i : Instr), decode w = .legal i → i.WellFormed ∧ encode i = some w

/-- R65: the illegal words are those of its five clauses, and a cycle that presents one (no `rst`, `cmd_valid` = 1) ends
with IllegalCommand, which records the word. -/
def Obligations.IllegalWordsAreTheListed : Prop :=
  (∀ w : CmdWord, (decode w).instr? = none ↔
    (5 ≤ w.toNat / 4096) ∨
    (w.toNat / 4096 = 1 ∧ w.toNat / 1024 % 4 = 3) ∨
    (w.toNat / 4096 = 1 ∧ w.toNat / 32 % 32 ≠ 0) ∨
    ((w.toNat / 4096 = 0 ∨ w.toNat / 4096 = 2 ∨ w.toNat / 4096 = 3) ∧ w.toNat % 4096 ≠ 0) ∨
    (w.toNat / 4096 = 4 ∧ w.toNat / 4 % 1024 ≠ 0)) ∧
  (∀ s : State, s.Live → s.cur.rst = false → s.cur.cmdValid = true → (decode s.cur.cmd).instr? = none →
    step s = .fault (.illegalCommand s.cur.cmd))

/-! ### A step runs the decoded operation -/

/-- A cycle that only presents a legal command word is `exec` of the decoded command, then the end of the cycle. -/
def Obligations.CommandCycleRunsItsCommand : Prop :=
  ∀ (s : State) (i : Instr), s.Live → s.cur.rst = false → s.cur.tick = false → s.cur.rd = false →
    s.cur.cmdValid = true → decode s.cur.cmd = .legal i →
    step s = andThen (exec i s) fun t => .next t.endCycle

/-- Every operation, command or strobe, is reached: the cycle that encodes it alone steps as `exec` of it, whatever its
draws. -/
def Obligations.EncodedCycleRunsItsOperation : Prop :=
  ∀ (s : State) (i : Instr) (p : Option PortLevels) (a : Option Sample) (rest : List Cycle),
    s.Live → i.WellFormed → s.pending = Cycle.ofInstr i p a :: rest →
    step s = andThen (exec i s) fun t => .next t.endCycle

/-- R48: a cycle with a command, `tick` and `rd`, and no `rst`, is READ, COMPOSE, TICK, then any other command. -/
def Obligations.CycleIsSerialised : Prop :=
  ∀ (s : State) (i : Instr), s.Live → s.cur.rst = false → s.cur.command = .legal i →
    step s =
      andThen (if s.cur.rd then exec .read s else .next s) fun a =>
      andThen (if i = .compose then exec .compose a else .next a) fun b =>
      andThen (if s.cur.tick then exec .tick b else .next b) fun c =>
      andThen (if i = .compose then .next c else exec i c) fun d => .next d.endCycle

/-- R47: the step is the simultaneous resolution, in which every read sees the state before the clock edge and a trigger
wins over a tick. -/
def Obligations.CycleIsSimultaneous : Prop := ∀ s : State, s.Live → step s = sameCycle s

/-- R66: with `cmd_valid` = 0 the value of `cmd` is ignored and the cycle is one with a NOP word; the other inputs act as
they would there. -/
def Obligations.NoCommandIsNop : Prop :=
  ∀ (s : State) (c : Cycle) (rest : List Cycle), s.pending = c :: rest → c.cmdValid = false →
    step s = step { s with pending := { c with cmdValid := true, cmd := 0x0000#16 } :: rest }

/-- When no cycle is listed no agent acts: only the cycle count moves (the model's choice, log entry 2). -/
def Obligations.QuietCycleHoldsState : Prop :=
  ∀ s : State, s.Live → s.pending = [] → step s = .next { s with clock := s.clock + 1 }

/-! ### The operations: result, completion and frame -/

/-- NOP writes nothing; the words 0x0001..0x0FFF are no NOPs. -/
def Obligations.NopWritesNothing : Prop :=
  (∀ s : State, exec .nop s = .next s) ∧ decode 0x0000#16 = .legal .nop ∧
  ∀ w : CmdWord, 0 < w.toNat → w.toNat < 0x1000 → decode w = .illegal .operandBits

/-- R64: SETCTRL completes in every state; the operands are cmd[0] and cmd[1], both control bits are written, and nothing
else. -/
def Obligations.SetctrlWritesBothBits : Prop :=
  (∀ (w : CmdWord) (te ae : Bool), decode w = .legal (.setctrl te ae) → ae = w.getLsbD 0 ∧ te = w.getLsbD 1) ∧
  (∀ (te ae : Bool) (s : State), ∃ t, exec (.setctrl te ae) s = .next t ∧
    t.adcEn = ae ∧ t.tickEn = te ∧ { t with ctrl := s.ctrl } = s)

/-- CONVERT with the ADC enabled completes for each legal slot and each channel: CHSEL holds the channel, the slot holds
the sample of that channel and is marked written, and every other slot and register is unchanged. Where the cycle gives
`adc_data`, that is the sample. A value is taken at its CH_BITS or ADC_BITS bits; with CH_BITS 5 or more every CH field is
its own channel (a narrower channel select is log entry 21's). -/
def Obligations.ConvertCapturesSample : Prop :=
  ∀ (slot : Slot) (ch : Chan) (k : Fin 3) (s : State), slot.toNat = k.val → s.adcEn = true →
    ∃ t, exec (.convert slot ch) s = .next t ∧
      t.chsel = ch.toNat % 2 ^ s.cfg.chBits ∧ (5 ≤ s.cfg.chBits → t.chsel = ch.toNat) ∧
      t.smp k = s.adcSample t.chsel ∧ t.smpw k = true ∧
      (∀ v, s.cur.adc = some v → t.smp k = v % 2 ^ s.cfg.adcBits) ∧
      (∀ j, j ≠ k → t.smp j = s.smp j ∧ t.smpw j = s.smpw j) ∧
      { t with chsel := s.chsel, smp0 := s.smp0, smp1 := s.smp1, smp2 := s.smp2,
               smpw0 := s.smpw0, smpw1 := s.smpw1, smpw2 := s.smpw2 } = s

/-- Where CONVERT stops: AdcDisabled with the ADC off and a legal slot; IllegalCommand for the ill-formed SLOT = 3, whatever
the ADC (log entry 15). -/
def Obligations.ConvertStopsByName : Prop :=
  (∀ (slot : Slot) (ch : Chan) (s : State), slot ≠ 3#2 → s.adcEn = false →
    exec (.convert slot ch) s = .fault (.adcDisabled slot ch)) ∧
  (∀ (ch : Chan) (s : State), ∃ w : CmdWord, w.toNat = 0x1C00 + ch.toNat ∧
    exec (.convert 3#2 ch) s = .fault (.illegalCommand w))

/-- EDGE completes in every state: a channel whose pin differs from its SNAP bit is loaded with ACT = 1 and PULSE_LENGTH,
whatever its latch held; a channel without an edge keeps its latch; SNAP records the two pins; nothing else changes. The
levels are the port input of the cycle at PIN_BITS wires where the cycle gives it, else a free value (log entry 7). -/
def Obligations.EdgeTriggersAndRecords : Prop :=
  ∀ s : State, ∃ t, exec .edge s = .next t ∧
    (∀ i, s.pin.testBit (s.cfg.togglePin i) ≠ s.snapBit i →
      t.latch i = { act := true, cnt := s.cfg.pulseLength }) ∧
    (∀ i, s.pin.testBit (s.cfg.togglePin i) = s.snapBit i → t.latch i = s.latch i) ∧
    (∀ i, t.snapBit i = s.pin.testBit (s.cfg.togglePin i)) ∧
    (∀ v, s.cur.pin = some v → s.pin = v % 2 ^ s.cfg.pinBits) ∧
    { t with latch0 := s.latch0, latch1 := s.latch1, snap := s.snap } = s

/-- R94: TICK completes in every state. Applied (TICK_EN = 1), each latch with a count that is not 0 counts down by one and
is cleared when it reaches 0, and a latch with count 0 is unchanged. Not applied, nothing changes. No other register
changes. -/
def Obligations.TickCountsDown : Prop :=
  (∀ s : State, s.tickEn = true → ∃ t, exec .tick s = .next t ∧
    (∀ i, (s.latch i).cnt ≠ 0 → (t.latch i).cnt + 1 = (s.latch i).cnt ∧
      (t.latch i).act = (if (s.latch i).cnt = 1 then false else (s.latch i).act)) ∧
    (∀ i, (s.latch i).cnt = 0 → t.latch i = s.latch i) ∧
    { t with latch0 := s.latch0, latch1 := s.latch1 } = s) ∧
  (∀ s : State, s.tickEn = false → exec .tick s = .next s)

/-- COMPOSE with every slot written completes: bytes 0, 1, 2 are bits 9:2 of the samples, byte 3 is the button byte of the
port and the two ACT flags, and nothing else changes. The port is the port input of the cycle at PIN_BITS wires where the
cycle gives it, else a free value (log entry 7). A sample of more than 10 bits is log entry 21's. -/
def Obligations.ComposeOverwritesReport : Prop :=
  ∀ s : State, (∀ k, s.smpw k = true) → ∃ t, exec .compose s = .next t ∧
    t.report0.toNat = s.smp0 / 4 % 256 ∧ t.report1.toNat = s.smp1 / 4 % 256 ∧ t.report2.toNat = s.smp2 / 4 % 256 ∧
    t.report3 = buttons s.cfg s.pin s.latch0.act s.latch1.act ∧
    (∀ v, s.cur.pin = some v → s.pin = v % 2 ^ s.cfg.pinBits) ∧
    { t with report0 := s.report0, report1 := s.report1, report2 := s.report2, report3 := s.report3 } = s

/-- COMPOSE with an unwritten slot stops with UnwrittenSample, which names the lowest such slot. -/
def Obligations.ComposeStopsOnLowestUnwritten : Prop :=
  ∀ (s : State) (k : Fin 3), s.smpw k = false → (∀ j, j < k → s.smpw j = true) →
    exec .compose s = .fault (.unwrittenSample k)

/-- READ completes in every state: the reader is shown one 32-bit word whose byte j, counted from bit 0, is REPORT[j]
(the little-endian view), and no register changes. -/
def Obligations.ReadPresentsReport : Prop :=
  ∀ s : State, ∃ (t : State) (w : ReportWord), exec .read s = .next t ∧ t.shown = s.shown ++ [w] ∧
    (∀ j : Fin 4, w.toNat / 2 ^ (8 * j.val) % 256 = (s.report j).toNat) ∧ { t with shown := s.shown } = s

/-- Every operation but TICK and CONVERT done again at once on the same inputs changes nothing more, the word a second READ
shows apart. EDGE is so after the first, because SNAP then equals the pins. That a second RESET in the same cycle leaves the
same samples, which R26 and R30 leave unspecified, is the model's choice (log entry 6: the free value is a function of the
cycle's number). -/
def Obligations.RepeatedOperationChangesNothing : Prop :=
  ∀ (i : Instr) (s t : State), exec i s = .next t →
    (i = .nop ∨ i = .compose ∨ (∃ te ae, i = .setctrl te ae) ∨ i = .reset ∨ i = .edge → exec i t = .next t) ∧
    (i = .read → ∃ u, exec .read t = .next u ∧ { u with shown := t.shown } = t)

/-- Which operations write which register (the W entries of the access matrix), for every operation at once. The model's
choices: a CHSEL of fewer than 5 bits holds the low bits of CH (log entry 21); RESET keeps the words shown (log entry 10),
the configuration, the mark, the cycles to come and their count (log entry 20). -/
def Obligations.OnlyListedOperationsWrite : Prop :=
  ∀ (i : Instr) (s t : State), exec i s = .next t →
    (∀ j, t.latch j ≠ s.latch j → i = .edge ∨ (i = .tick ∧ s.tickEn = true) ∨ i = .reset) ∧
    (t.snap ≠ s.snap → i = .edge ∨ i = .reset) ∧
    (t.chsel ≠ s.chsel → (∃ slot ch, i = .convert slot ch ∧ t.chsel = ch.toNat % 2 ^ s.cfg.chBits) ∨ i = .reset) ∧
    (∀ k, t.smp k ≠ s.smp k ∨ t.smpw k ≠ s.smpw k →
      (∃ slot ch, i = .convert slot ch ∧ slot.toNat = k.val) ∨ i = .reset) ∧
    (∀ j, t.report j ≠ s.report j → i = .compose ∨ i = .reset) ∧
    (t.ctrl ≠ s.ctrl → (∃ te ae, i = .setctrl te ae) ∨ i = .reset) ∧
    (t.shown ≠ s.shown → i = .read) ∧
    t.cfg = s.cfg ∧ t.mark = s.mark ∧ t.pending = s.pending ∧ t.clock = s.clock

/-! ### The bytes of the report -/

/-- R113: for a sample v of 10 bits the axis byte is in 0..255, monotonic, depends on v >> 2 alone, and is n for 4n + r. -/
def Obligations.AxisByteLaw : Prop :=
  (∀ v : Nat, v < 1024 → (axis v).toNat ≤ 255 ∧ (axis v).toNat = v / 4) ∧
  (∀ v v' : Nat, v ≤ v' → v' < 1024 → (axis v).toNat ≤ (axis v').toNat) ∧
  (∀ v v' : Nat, v < 1024 → v' < 1024 → (axis v = axis v' ↔ v / 4 = v' / 4)) ∧
  (∀ n r : Nat, n < 256 → r < 4 → (axis (4 * n + r)).toNat = n)

/-- R112: each bit of the button byte, for every configuration, level of its port and pair of flags, where the port has
that wire (NarrowPortLeavesBitsClear has the others); and under the default configuration bits 0 and 1 are ACT[1] and
ACT[0], bits 6:2 are the inverted port bits, and bit 7 is 0. -/
def Obligations.ButtonByteBits : Prop :=
  (∀ (c : Config) (p : PortLevels) (a0 a1 : Bool) (n : Nat), p < 2 ^ c.pinBits → n < c.pinBits → n < 8 →
    (buttons c p a0 a1).getLsbD n =
      ((decide (n = 0) && a1) || (decide (n = 1) && a0) ||
        ((if c.btnInvert then !(p.testBit n) else p.testBit n) && c.buttonMask.testBit n))) ∧
  (∀ (p : PortLevels) (a0 a1 : Bool), p < 256 → let b := buttons Config.default p a0 a1
    b.getLsbD 0 = a1 ∧ b.getLsbD 1 = a0 ∧ (∀ n, 2 ≤ n → n ≤ 6 → b.getLsbD n = !(p.testBit n)) ∧ b.getLsbD 7 = false)

/-- A report bit that a port of fewer than 8 wires does not reach carries its latch flag alone, with or without inversion:
the complement is at the port's width (the model's inference, log entry 21). -/
def Obligations.NarrowPortLeavesBitsClear : Prop :=
  ∀ (c : Config) (p : PortLevels) (a0 a1 : Bool) (n : Nat), p < 2 ^ c.pinBits → c.pinBits ≤ n → n < 8 →
    (buttons c p a0 a1).getLsbD n = ((decide (n = 0) && a1) || (decide (n = 1) && a0))

/-! ### The debouncer over many cycles -/

/-- R98: the latches of every reset state are sound (ACT = 1 exactly when CNT ≠ 0, CNT ≤ PULSE_LENGTH), and every step
keeps them so. A step that answers a next state has a legal configuration. -/
def Obligations.StepKeepsLatchesSound : Prop :=
  (∀ c : Config, (State.resetWith c).LatchesSound) ∧
  (∀ s t : State, s.LatchesSound → step s = .next t → t.LatchesSound)

/-- The reset state's latches are sound. -/
def Obligations.LatchesSoundAtReset : Prop := State.reset.LatchesSound

/-- CHSEL and the samples fit the widths CH_BITS and ADC_BITS of the configuration: at reset, and after every step from
any state in which they do. -/
def Obligations.StepKeepsWidths : Prop :=
  (∀ c : Config, (State.resetWith c).WidthsFit) ∧
  (∀ s t : State, s.WidthsFit → step s = .next t → t.WidthsFit)

/-- CNT fits its register: with sound latches, every step leaves each count below 2^CNT_WIDTH. -/
def Obligations.CountFitsItsWidth : Prop :=
  ∀ s t : State, s.LatchesSound → step s = .next t → ∀ i, (t.latch i).cnt < 2 ^ t.cfg.cntWidth

/-- R96: the next {ACT[i], CNT[i], SNAP[i]} depends only on the channel's own pre-state and pin level, the command being
EDGE or not, `rst`, `tick` and TICK_EN. -/
def Obligations.ChannelsAreIndependent : Prop :=
  ∀ (i : Fin 2) (s s' t t' : State), step s = .next t → step s' = .next t' →
    s.cfg = s'.cfg → s.latch i = s'.latch i → s.snapBit i = s'.snapBit i →
    s.pin.testBit (s.cfg.togglePin i) = s'.pin.testBit (s'.cfg.togglePin i) →
    s.cur.rst = s'.cur.rst → s.commands .edge = s'.commands .edge → s.cur.tick = s'.cur.tick → s.tickEn = s'.tickEn →
    t.latch i = t'.latch i ∧ t.snapBit i = t'.snapBit i

/-- R97: after the cycle that triggers latch i, and with no later trigger of it and no reset, CNT[i] is PULSE_LENGTH less
the applied ticks since, and ACT[i] is 1 until the PULSE_LENGTH-th of them. -/
def Obligations.PulseLastsItsTicks : Prop :=
  ∀ (i : Fin 2) (n : Nat) (s0 s t : State), s0.triggers i = true → step s0 = .next s → run n s = .next t →
    NeverAlong (fun u => u.triggers i) n s → NeverAlong State.resets n s →
    (t.latch i).cnt = s0.cfg.pulseLength - countAlong State.ticks n s ∧
    (t.latch i).act = decide (countAlong State.ticks n s < s0.cfg.pulseLength)

/-- The length of a pulse in clock cycles when applied ticks come every P cycles. With the first of them d cycles after the
trigger ACT[i] is 1 for exactly d + (PULSE_LENGTH − 1)·P cycles. When the trigger fell in the cycle of a tick, the next
being P cycles later, it is 1 for exactly PULSE_LENGTH·P. That TICK_PERIOD is counted in cycles is the model's (log
entry 13). -/
def Obligations.PulseLengthInCycles : Prop :=
  ∀ (i : Fin 2) (P n : Nat) (s0 s t : State), 1 ≤ P → s0.cfg.tickPeriod = some P →
    s0.triggers i = true → step s0 = .next s → run n s = .next t →
    NeverAlong (fun u => u.triggers i) n s → NeverAlong State.resets n s → NeverAlong (fun u => !u.tickEn) n s →
    (∀ d, 1 ≤ d → d ≤ P → TicksEvery P d n s.pending →
      ((t.latch i).act = true ↔ n < d + (s0.cfg.pulseLength - 1) * P)) ∧
    (TicksEvery P 1 (n + 1) s0.pending → s0.cur.tick = true ∧
      ((t.latch i).act = true ↔ n < s0.cfg.pulseLength * P))

/-- R101: while TICK_EN stays 0 a latch keeps ACT and CNT over any number of cycles that neither trigger it nor reset;
and a triggering EDGE loads it whatever TICK_EN is and whatever tick comes in its cycle. -/
def Obligations.PulseFreezesWithTicksOff : Prop :=
  (∀ (i : Fin 2) (n : Nat) (s t : State), run n s = .next t → NeverAlong State.tickEn n s →
    NeverAlong (fun u => u.triggers i) n s → NeverAlong State.resets n s → t.latch i = s.latch i) ∧
  (∀ (i : Fin 2) (s t : State), s.triggers i = true → step s = .next t →
    t.latch i = { act := true, cnt := s.cfg.pulseLength })

/-- R102: the first EDGE after reset triggers latch i exactly when its pin differs from SNAP_INIT[i]; a latch it does not
trigger is Idle. For every configuration, so for each value of the OPEN SNAP_INIT: from the state right after reset, and
after any cycle with `rst` in any run, whatever EDGEs came before it. -/
def Obligations.FirstEdgeComparesWithSnapInit : Prop :=
  ∀ (n : Nat) (s1 s t : State) (i : Fin 2),
    ((∃ (c : Config) (cs : List Cycle), s1 = { State.resetWith c with pending := cs }) ∨
      (∃ s0 : State, s0.resets = true ∧ step s0 = .next s1)) →
    run n s1 = .next s → NeverAlong (fun u => u.commands .edge) n s1 →
    s.commands .edge = true → step s = .next t →
    (s.triggers i = true ↔ s.pin.testBit (s1.cfg.togglePin i) ≠ s1.cfg.snapInit.testBit i.val) ∧
    t.latch i =
      (if s.triggers i then { act := true, cnt := s1.cfg.pulseLength } else { act := false, cnt := 0 })

/-- Between two EDGE commands only the levels they sample count: the second triggers latch i exactly when its level differs
from the first's, whatever the pins did between. -/
def Obligations.EdgeComparesSampledLevels : Prop :=
  ∀ (i : Fin 2) (n : Nat) (s0 s u : State), s0.commands .edge = true → step s0 = .next s → run n s = .next u →
    NeverAlong (fun v => v.commands .edge) n s → NeverAlong State.resets n s → u.commands .edge = true →
    (u.triggers i = true ↔ u.pin.testBit (s0.cfg.togglePin i) ≠ s0.pin.testBit (s0.cfg.togglePin i))

/-! ### The report and the samples over many cycles -/

/-- Over any cycles without a COMPOSE and without a reset the report stays, and each READ in them returns it. -/
def Obligations.ReadsAreStable : Prop :=
  ∀ (n : Nat) (s t : State), run n s = .next t → NeverAlong (fun u => u.commands .compose) n s →
    NeverAlong State.resets n s →
    (∀ j, t.report j = s.report j) ∧
    t.shown = s.shown ++ List.replicate (countAlong (fun u => u.cur.rd) n s) s.reportWord

/-- R116: any number of cycles after a COMPOSE, with no other COMPOSE and no reset, the report and so a READ is the result
of that COMPOSE, from the samples, the port and the flags before its cycle. -/
def Obligations.ReportIsTheLatestCompose : Prop :=
  ∀ (n : Nat) (s0 s u : State), s0.commands .compose = true → step s0 = .next s → run n s = .next u →
    NeverAlong (fun v => v.commands .compose) n s → NeverAlong State.resets n s →
    u.report0 = axis s0.smp0 ∧ u.report1 = axis s0.smp1 ∧ u.report2 = axis s0.smp2 ∧
    u.report3 = buttons s0.cfg s0.pin s0.latch0.act s0.latch1.act ∧
    ∃ v, exec .read u = .next v ∧ v.shown = u.shown ++ [u.report3 ++ u.report2 ++ u.report1 ++ u.report0]

/-- Over any cycles without a reset, a slot is marked written exactly when it was before or some cycle converted into it:
after a CONVERT to each slot COMPOSE never stops again until a reset. -/
def Obligations.SlotsStayWritten : Prop :=
  ∀ (n : Nat) (s t : State) (k : Fin 3), run n s = .next t → NeverAlong State.resets n s →
    (t.smpw k = true ↔ s.smpw k = true ∨ countAlong (fun u => u.convertsTo k) n s ≠ 0)

/-- No step changes the configuration, marks a fault in its next state, or skips a cycle. The model's choices: the
configuration is a field that no step changes (log entry 3) and a reset keeps (log entry 20); a step takes the head of the
cycles to come (log entry 1) and moves their count (log entry 7); a next state has the sizes laid out (log entry 22); and
the fault mark is set by the outcome, not in a next state (log entry 9). -/
def Obligations.StepKeepsConfiguration : Prop :=
  ∀ s t : State, step s = .next t → t.cfg = s.cfg ∧ t.Live ∧ t.pending = s.pending.tail ∧ t.clock = s.clock + 1

/-! ### Stops -/

/-- R7, R133: the legal configurations are those of R7, and under any other no step has a meaning. -/
def Obligations.IllegalConfigurationIsRefused : Prop :=
  (∀ c : Config, c.legal = true ↔
    1 ≤ c.pulseLength ∧ c.pulseLength ≤ 2 ^ c.cntWidth - 1 ∧ c.togglePin0 ≠ c.togglePin1 ∧
    c.togglePin0 < c.pinBits ∧ c.togglePin1 < c.pinBits ∧ c.buttonMask < 256 ∧ c.snapInit < 4) ∧
  (∀ s : State, s.cfg.legal = false → step s = .refused .illegalConfig)

/-- A configuration with other numbers of latches or slots than the spec lays out is refused by name, if R7 allows it, and
the table's numbers are laid out whatever the other parameters are (the model's choice, log entry 22). -/
def Obligations.UnlaidSizesAreRefused : Prop :=
  (∀ s : State, s.cfg.legal = true → s.cfg.nToggle ≠ 2 ∨ s.cfg.nSlot ≠ 3 → step s = .refused .noLayout) ∧
  (∀ c : Config, c.nToggle = 2 → c.nSlot = 3 → c.laidOut = true)

/-- R130: the faults of a step, exactly: an illegal valid word, a CONVERT with the ADC off, a COMPOSE with an unwritten
slot (the lowest is recorded), each with its record and code; none under `rst`, and none of `tick` or `rd`. -/
def Obligations.FaultsAreTheThree : Prop :=
  (∀ (s : State) (f : Fault), s.Live →
    (step s = .fault f ↔ s.cur.rst = false ∧
      ((s.cur.cmdValid = true ∧ (decode s.cur.cmd).instr? = none ∧ f = .illegalCommand s.cur.cmd) ∨
       (∃ slot ch, s.cur.command = .legal (.convert slot ch) ∧ s.adcEn = false ∧ f = .adcDisabled slot ch) ∨
       (∃ k, s.cur.command = .legal .compose ∧ s.smpw k = false ∧ (∀ j, j < k → s.smpw j = true) ∧
         f = .unwrittenSample k)))) ∧
  (∀ (w : CmdWord) (slot : Slot) (ch : Chan) (k : Fin 3), (Fault.illegalCommand w).code = 1 ∧
    (Fault.adcDisabled slot ch).code = 2 ∧ (Fault.unwrittenSample k).code = 3)

/-- A cycle that faults ends the run with the mark set and no register written, and a marked state never runs again, whatever
its inputs, `rst` among them (R131). That the step of a marked state answers its fault again, and that a READ in the
faulting cycle is not shown, is the model's (log entry 9). -/
def Obligations.FaultEndsTheRun : Prop :=
  (∀ (s : State) (c : Cycle) (cs : List Cycle) (f : Fault), step { s with pending := c :: cs } = .fault f →
    runCycles (c :: cs) s = .faulted (s.stop f) f ∧ (s.stop f).mark = some f ∧ { s.stop f with mark := s.mark } = s) ∧
  (∀ (s : State) (f : Fault) (cs : List Cycle), s.cfg.legal = true → s.cfg.laidOut = true → s.mark = some f →
    step { s with pending := cs } = .fault f)

/-- A run that starts with a reset begins afresh: nothing of the registers before it survives. Two live states of one
configuration, alike in the model's own `shown` and `clock` and else arbitrary, give the same run (no READ in the reset
cycle itself, which would show the old report). That the samples after the reset, which R26 and R30 leave unspecified, do
not depend on the old ones is the model's choice (log entry 6: the free value is a function of the cycle's number). -/
def Obligations.RunForgetsTheStateBeforeReset : Prop :=
  ∀ (c : Cycle) (cs : List Cycle) (s s' : State), startsWithReset (c :: cs) = true → c.rd = false →
    s.Live → s'.Live → s.cfg = s'.cfg → s.shown = s'.shown → s.clock = s'.clock →
    runCycles (c :: cs) s = runCycles (c :: cs) s'

/-- A live block never waits and is never refused: each cycle answers a next state or one of the faults. -/
def Obligations.LiveCycleCompletesOrFaults : Prop :=
  ∀ s : State, s.Live → (∃ t, step s = .next t) ∨ ∃ f, step s = .fault f

/-! ### Outputs and the assembler -/

/-- The `adc_ch` output, at CH_BITS wires, is the CH field of a CONVERT in the cycle, else CHSEL. Under `rst` it is CHSEL
(the model's inference, log entry 14); a channel select of fewer than 5 bits is log entry 21's. -/
def Obligations.AdcChannelOutput : Prop :=
  ∀ s : State,
    (∀ slot ch, s.commands (.convert slot ch) = true → s.adcCh = ch.toNat % 2 ^ s.cfg.chBits) ∧
    ((∀ slot ch, s.commands (.convert slot ch) = false) → s.adcCh = s.chsel)

/-- The assembler gives CONVERT and SETCTRL their words for operands in range and refuses the others. -/
def Obligations.AssemblerChecksRanges : Prop :=
  (∀ slot ch : Nat, (Asm.convert slot ch).words =
    if slot ≤ 2 ∧ ch ≤ 31 then some [BitVec.ofNat 16 (0x1000 + 1024 * slot + ch)] else none) ∧
  (∀ imm2 : Nat, (Asm.setctrl imm2).words = if imm2 ≤ 3 then some [BitVec.ofNat 16 (0x4000 + imm2)] else none)

/-- R71: what each pseudo-instruction stands for. -/
def Obligations.PseudoInstructionsExpand : Prop :=
  Asm.enable.expand = (Asm.setctrl 3).expand ∧ Asm.disable.expand = (Asm.setctrl 0).expand ∧
  Asm.adcInit.expand = (Asm.setctrl 1).expand ∧
  (∀ c0 c1 c2 : Nat, c0 < 32 → c1 < 32 → c2 < 32 →
    (Asm.iter c0 c1 c2).expand = some [convertOf 0 c0, convertOf 1 c1, convertOf 2 c2, .edge, .compose] ∧
    (Asm.convert 0 c0).expand = some [convertOf 0 c0] ∧ (Asm.convert 1 c1).expand = some [convertOf 1 c1] ∧
    (Asm.convert 2 c2).expand = some [convertOf 2 c2])
end

