-- ==== Sys2Proof/Laws/State.lean ====
section
/-! SUPPORT. What each write of a register does to each field of State and to each reading of it: one lemma per field
per update, true by rfl. -/

namespace Sys2Proof.Machine

variable (s : State)

@[simp] theorem State.setLatches_cfg (f : Fin 2 → Latch) : (s.setLatches f).cfg = s.cfg := rfl
@[simp] theorem State.setLatches_latch0 (f : Fin 2 → Latch) : (s.setLatches f).latch0 = f 0 := rfl
@[simp] theorem State.setLatches_latch1 (f : Fin 2 → Latch) : (s.setLatches f).latch1 = f 1 := rfl
@[simp] theorem State.setLatches_snap (f : Fin 2 → Latch) : (s.setLatches f).snap = s.snap := rfl
@[simp] theorem State.setLatches_chsel (f : Fin 2 → Latch) : (s.setLatches f).chsel = s.chsel := rfl
@[simp] theorem State.setLatches_smp0 (f : Fin 2 → Latch) : (s.setLatches f).smp0 = s.smp0 := rfl
@[simp] theorem State.setLatches_smp1 (f : Fin 2 → Latch) : (s.setLatches f).smp1 = s.smp1 := rfl
@[simp] theorem State.setLatches_smp2 (f : Fin 2 → Latch) : (s.setLatches f).smp2 = s.smp2 := rfl
@[simp] theorem State.setLatches_smpw0 (f : Fin 2 → Latch) : (s.setLatches f).smpw0 = s.smpw0 := rfl
@[simp] theorem State.setLatches_smpw1 (f : Fin 2 → Latch) : (s.setLatches f).smpw1 = s.smpw1 := rfl
@[simp] theorem State.setLatches_smpw2 (f : Fin 2 → Latch) : (s.setLatches f).smpw2 = s.smpw2 := rfl
@[simp] theorem State.setLatches_report0 (f : Fin 2 → Latch) : (s.setLatches f).report0 = s.report0 := rfl
@[simp] theorem State.setLatches_report1 (f : Fin 2 → Latch) : (s.setLatches f).report1 = s.report1 := rfl
@[simp] theorem State.setLatches_report2 (f : Fin 2 → Latch) : (s.setLatches f).report2 = s.report2 := rfl
@[simp] theorem State.setLatches_report3 (f : Fin 2 → Latch) : (s.setLatches f).report3 = s.report3 := rfl
@[simp] theorem State.setLatches_ctrl (f : Fin 2 → Latch) : (s.setLatches f).ctrl = s.ctrl := rfl
@[simp] theorem State.setLatches_mark (f : Fin 2 → Latch) : (s.setLatches f).mark = s.mark := rfl
@[simp] theorem State.setLatches_shown (f : Fin 2 → Latch) : (s.setLatches f).shown = s.shown := rfl
@[simp] theorem State.setLatches_pending (f : Fin 2 → Latch) : (s.setLatches f).pending = s.pending := rfl
@[simp] theorem State.setLatches_clock (f : Fin 2 → Latch) : (s.setLatches f).clock = s.clock := rfl
@[simp] theorem State.setLatches_snapBit (f : Fin 2 → Latch) (i : Fin 2) : (s.setLatches f).snapBit i = s.snapBit i := rfl
@[simp] theorem State.setLatches_smp (f : Fin 2 → Latch) (k : Fin 3) : (s.setLatches f).smp k = s.smp k := rfl
@[simp] theorem State.setLatches_smpw (f : Fin 2 → Latch) (k : Fin 3) : (s.setLatches f).smpw k = s.smpw k := rfl
@[simp] theorem State.setLatches_report (f : Fin 2 → Latch) (j : Fin 4) : (s.setLatches f).report j = s.report j := rfl
@[simp] theorem State.setLatches_adcEn (f : Fin 2 → Latch) : (s.setLatches f).adcEn = s.adcEn := rfl
@[simp] theorem State.setLatches_tickEn (f : Fin 2 → Latch) : (s.setLatches f).tickEn = s.tickEn := rfl
@[simp] theorem State.setLatches_reportWord (f : Fin 2 → Latch) : (s.setLatches f).reportWord = s.reportWord := rfl
@[simp] theorem State.setLatches_firstUnwritten (f : Fin 2 → Latch) : (s.setLatches f).firstUnwritten = s.firstUnwritten := rfl
@[simp] theorem State.setLatches_cur (f : Fin 2 → Latch) : (s.setLatches f).cur = s.cur := rfl
@[simp] theorem State.setLatches_pin (f : Fin 2 → Latch) : (s.setLatches f).pin = s.pin := rfl
@[simp] theorem State.setLatches_adcSample (f : Fin 2 → Latch) (ch : Channel) : (s.setLatches f).adcSample ch = s.adcSample ch := rfl
@[simp] theorem State.setLatches_edgeSeen (f : Fin 2 → Latch) (i : Fin 2) : (s.setLatches f).edgeSeen i = s.edgeSeen i := rfl

@[simp] theorem State.setSnap_cfg (v : BitVec 2) : (s.setSnap v).cfg = s.cfg := rfl
@[simp] theorem State.setSnap_latch0 (v : BitVec 2) : (s.setSnap v).latch0 = s.latch0 := rfl
@[simp] theorem State.setSnap_latch1 (v : BitVec 2) : (s.setSnap v).latch1 = s.latch1 := rfl
@[simp] theorem State.setSnap_snap (v : BitVec 2) : (s.setSnap v).snap = v := rfl
@[simp] theorem State.setSnap_chsel (v : BitVec 2) : (s.setSnap v).chsel = s.chsel := rfl
@[simp] theorem State.setSnap_smp0 (v : BitVec 2) : (s.setSnap v).smp0 = s.smp0 := rfl
@[simp] theorem State.setSnap_smp1 (v : BitVec 2) : (s.setSnap v).smp1 = s.smp1 := rfl
@[simp] theorem State.setSnap_smp2 (v : BitVec 2) : (s.setSnap v).smp2 = s.smp2 := rfl
@[simp] theorem State.setSnap_smpw0 (v : BitVec 2) : (s.setSnap v).smpw0 = s.smpw0 := rfl
@[simp] theorem State.setSnap_smpw1 (v : BitVec 2) : (s.setSnap v).smpw1 = s.smpw1 := rfl
@[simp] theorem State.setSnap_smpw2 (v : BitVec 2) : (s.setSnap v).smpw2 = s.smpw2 := rfl
@[simp] theorem State.setSnap_report0 (v : BitVec 2) : (s.setSnap v).report0 = s.report0 := rfl
@[simp] theorem State.setSnap_report1 (v : BitVec 2) : (s.setSnap v).report1 = s.report1 := rfl
@[simp] theorem State.setSnap_report2 (v : BitVec 2) : (s.setSnap v).report2 = s.report2 := rfl
@[simp] theorem State.setSnap_report3 (v : BitVec 2) : (s.setSnap v).report3 = s.report3 := rfl
@[simp] theorem State.setSnap_ctrl (v : BitVec 2) : (s.setSnap v).ctrl = s.ctrl := rfl
@[simp] theorem State.setSnap_mark (v : BitVec 2) : (s.setSnap v).mark = s.mark := rfl
@[simp] theorem State.setSnap_shown (v : BitVec 2) : (s.setSnap v).shown = s.shown := rfl
@[simp] theorem State.setSnap_pending (v : BitVec 2) : (s.setSnap v).pending = s.pending := rfl
@[simp] theorem State.setSnap_clock (v : BitVec 2) : (s.setSnap v).clock = s.clock := rfl
@[simp] theorem State.setSnap_latch (v : BitVec 2) (i : Fin 2) : (s.setSnap v).latch i = s.latch i := rfl
@[simp] theorem State.setSnap_smp (v : BitVec 2) (k : Fin 3) : (s.setSnap v).smp k = s.smp k := rfl
@[simp] theorem State.setSnap_smpw (v : BitVec 2) (k : Fin 3) : (s.setSnap v).smpw k = s.smpw k := rfl
@[simp] theorem State.setSnap_report (v : BitVec 2) (j : Fin 4) : (s.setSnap v).report j = s.report j := rfl
@[simp] theorem State.setSnap_adcEn (v : BitVec 2) : (s.setSnap v).adcEn = s.adcEn := rfl
@[simp] theorem State.setSnap_tickEn (v : BitVec 2) : (s.setSnap v).tickEn = s.tickEn := rfl
@[simp] theorem State.setSnap_reportWord (v : BitVec 2) : (s.setSnap v).reportWord = s.reportWord := rfl
@[simp] theorem State.setSnap_firstUnwritten (v : BitVec 2) : (s.setSnap v).firstUnwritten = s.firstUnwritten := rfl
@[simp] theorem State.setSnap_cur (v : BitVec 2) : (s.setSnap v).cur = s.cur := rfl
@[simp] theorem State.setSnap_pin (v : BitVec 2) : (s.setSnap v).pin = s.pin := rfl
@[simp] theorem State.setSnap_adcSample (v : BitVec 2) (ch : Channel) : (s.setSnap v).adcSample ch = s.adcSample ch := rfl

@[simp] theorem State.setChsel_cfg (c : Channel) : (s.setChsel c).cfg = s.cfg := rfl
@[simp] theorem State.setChsel_latch0 (c : Channel) : (s.setChsel c).latch0 = s.latch0 := rfl
@[simp] theorem State.setChsel_latch1 (c : Channel) : (s.setChsel c).latch1 = s.latch1 := rfl
@[simp] theorem State.setChsel_snap (c : Channel) : (s.setChsel c).snap = s.snap := rfl
@[simp] theorem State.setChsel_chsel (c : Channel) : (s.setChsel c).chsel = c := rfl
@[simp] theorem State.setChsel_smp0 (c : Channel) : (s.setChsel c).smp0 = s.smp0 := rfl
@[simp] theorem State.setChsel_smp1 (c : Channel) : (s.setChsel c).smp1 = s.smp1 := rfl
@[simp] theorem State.setChsel_smp2 (c : Channel) : (s.setChsel c).smp2 = s.smp2 := rfl
@[simp] theorem State.setChsel_smpw0 (c : Channel) : (s.setChsel c).smpw0 = s.smpw0 := rfl
@[simp] theorem State.setChsel_smpw1 (c : Channel) : (s.setChsel c).smpw1 = s.smpw1 := rfl
@[simp] theorem State.setChsel_smpw2 (c : Channel) : (s.setChsel c).smpw2 = s.smpw2 := rfl
@[simp] theorem State.setChsel_report0 (c : Channel) : (s.setChsel c).report0 = s.report0 := rfl
@[simp] theorem State.setChsel_report1 (c : Channel) : (s.setChsel c).report1 = s.report1 := rfl
@[simp] theorem State.setChsel_report2 (c : Channel) : (s.setChsel c).report2 = s.report2 := rfl
@[simp] theorem State.setChsel_report3 (c : Channel) : (s.setChsel c).report3 = s.report3 := rfl
@[simp] theorem State.setChsel_ctrl (c : Channel) : (s.setChsel c).ctrl = s.ctrl := rfl
@[simp] theorem State.setChsel_mark (c : Channel) : (s.setChsel c).mark = s.mark := rfl
@[simp] theorem State.setChsel_shown (c : Channel) : (s.setChsel c).shown = s.shown := rfl
@[simp] theorem State.setChsel_pending (c : Channel) : (s.setChsel c).pending = s.pending := rfl
@[simp] theorem State.setChsel_clock (c : Channel) : (s.setChsel c).clock = s.clock := rfl
@[simp] theorem State.setChsel_latch (c : Channel) (i : Fin 2) : (s.setChsel c).latch i = s.latch i := rfl
@[simp] theorem State.setChsel_snapBit (c : Channel) (i : Fin 2) : (s.setChsel c).snapBit i = s.snapBit i := rfl
@[simp] theorem State.setChsel_smp (c : Channel) (k : Fin 3) : (s.setChsel c).smp k = s.smp k := rfl
@[simp] theorem State.setChsel_smpw (c : Channel) (k : Fin 3) : (s.setChsel c).smpw k = s.smpw k := rfl
@[simp] theorem State.setChsel_report (c : Channel) (j : Fin 4) : (s.setChsel c).report j = s.report j := rfl
@[simp] theorem State.setChsel_adcEn (c : Channel) : (s.setChsel c).adcEn = s.adcEn := rfl
@[simp] theorem State.setChsel_tickEn (c : Channel) : (s.setChsel c).tickEn = s.tickEn := rfl
@[simp] theorem State.setChsel_reportWord (c : Channel) : (s.setChsel c).reportWord = s.reportWord := rfl
@[simp] theorem State.setChsel_firstUnwritten (c : Channel) : (s.setChsel c).firstUnwritten = s.firstUnwritten := rfl
@[simp] theorem State.setChsel_cur (c : Channel) : (s.setChsel c).cur = s.cur := rfl
@[simp] theorem State.setChsel_pin (c : Channel) : (s.setChsel c).pin = s.pin := rfl
@[simp] theorem State.setChsel_adcSample (c : Channel) (ch : Channel) : (s.setChsel c).adcSample ch = s.adcSample ch := rfl
@[simp] theorem State.setChsel_edgeSeen (c : Channel) (i : Fin 2) : (s.setChsel c).edgeSeen i = s.edgeSeen i := rfl

@[simp] theorem State.setSample_cfg (k' : Fin 3) (v : Sample) : (s.setSample k' v).cfg = s.cfg := rfl
@[simp] theorem State.setSample_latch0 (k' : Fin 3) (v : Sample) : (s.setSample k' v).latch0 = s.latch0 := rfl
@[simp] theorem State.setSample_latch1 (k' : Fin 3) (v : Sample) : (s.setSample k' v).latch1 = s.latch1 := rfl
@[simp] theorem State.setSample_snap (k' : Fin 3) (v : Sample) : (s.setSample k' v).snap = s.snap := rfl
@[simp] theorem State.setSample_chsel (k' : Fin 3) (v : Sample) : (s.setSample k' v).chsel = s.chsel := rfl
@[simp] theorem State.setSample_smp0 (k' : Fin 3) (v : Sample) : (s.setSample k' v).smp0 = if k' = 0 then v else s.smp0 := rfl
@[simp] theorem State.setSample_smp1 (k' : Fin 3) (v : Sample) : (s.setSample k' v).smp1 = if k' = 1 then v else s.smp1 := rfl
@[simp] theorem State.setSample_smp2 (k' : Fin 3) (v : Sample) : (s.setSample k' v).smp2 = if k' = 2 then v else s.smp2 := rfl
@[simp] theorem State.setSample_smpw0 (k' : Fin 3) (v : Sample) : (s.setSample k' v).smpw0 = if k' = 0 then true else s.smpw0 := rfl
@[simp] theorem State.setSample_smpw1 (k' : Fin 3) (v : Sample) : (s.setSample k' v).smpw1 = if k' = 1 then true else s.smpw1 := rfl
@[simp] theorem State.setSample_smpw2 (k' : Fin 3) (v : Sample) : (s.setSample k' v).smpw2 = if k' = 2 then true else s.smpw2 := rfl
@[simp] theorem State.setSample_report0 (k' : Fin 3) (v : Sample) : (s.setSample k' v).report0 = s.report0 := rfl
@[simp] theorem State.setSample_report1 (k' : Fin 3) (v : Sample) : (s.setSample k' v).report1 = s.report1 := rfl
@[simp] theorem State.setSample_report2 (k' : Fin 3) (v : Sample) : (s.setSample k' v).report2 = s.report2 := rfl
@[simp] theorem State.setSample_report3 (k' : Fin 3) (v : Sample) : (s.setSample k' v).report3 = s.report3 := rfl
@[simp] theorem State.setSample_ctrl (k' : Fin 3) (v : Sample) : (s.setSample k' v).ctrl = s.ctrl := rfl
@[simp] theorem State.setSample_mark (k' : Fin 3) (v : Sample) : (s.setSample k' v).mark = s.mark := rfl
@[simp] theorem State.setSample_shown (k' : Fin 3) (v : Sample) : (s.setSample k' v).shown = s.shown := rfl
@[simp] theorem State.setSample_pending (k' : Fin 3) (v : Sample) : (s.setSample k' v).pending = s.pending := rfl
@[simp] theorem State.setSample_clock (k' : Fin 3) (v : Sample) : (s.setSample k' v).clock = s.clock := rfl
@[simp] theorem State.setSample_latch (k' : Fin 3) (v : Sample) (i : Fin 2) : (s.setSample k' v).latch i = s.latch i := rfl
@[simp] theorem State.setSample_snapBit (k' : Fin 3) (v : Sample) (i : Fin 2) : (s.setSample k' v).snapBit i = s.snapBit i := rfl
@[simp] theorem State.setSample_report (k' : Fin 3) (v : Sample) (j : Fin 4) : (s.setSample k' v).report j = s.report j := rfl
@[simp] theorem State.setSample_adcEn (k' : Fin 3) (v : Sample) : (s.setSample k' v).adcEn = s.adcEn := rfl
@[simp] theorem State.setSample_tickEn (k' : Fin 3) (v : Sample) : (s.setSample k' v).tickEn = s.tickEn := rfl
@[simp] theorem State.setSample_reportWord (k' : Fin 3) (v : Sample) : (s.setSample k' v).reportWord = s.reportWord := rfl
@[simp] theorem State.setSample_cur (k' : Fin 3) (v : Sample) : (s.setSample k' v).cur = s.cur := rfl
@[simp] theorem State.setSample_pin (k' : Fin 3) (v : Sample) : (s.setSample k' v).pin = s.pin := rfl
@[simp] theorem State.setSample_adcSample (k' : Fin 3) (v : Sample) (ch : Channel) : (s.setSample k' v).adcSample ch = s.adcSample ch := rfl
@[simp] theorem State.setSample_edgeSeen (k' : Fin 3) (v : Sample) (i : Fin 2) : (s.setSample k' v).edgeSeen i = s.edgeSeen i := rfl

@[simp] theorem State.setReport_cfg (f : Fin 4 → Byte) : (s.setReport f).cfg = s.cfg := rfl
@[simp] theorem State.setReport_latch0 (f : Fin 4 → Byte) : (s.setReport f).latch0 = s.latch0 := rfl
@[simp] theorem State.setReport_latch1 (f : Fin 4 → Byte) : (s.setReport f).latch1 = s.latch1 := rfl
@[simp] theorem State.setReport_snap (f : Fin 4 → Byte) : (s.setReport f).snap = s.snap := rfl
@[simp] theorem State.setReport_chsel (f : Fin 4 → Byte) : (s.setReport f).chsel = s.chsel := rfl
@[simp] theorem State.setReport_smp0 (f : Fin 4 → Byte) : (s.setReport f).smp0 = s.smp0 := rfl
@[simp] theorem State.setReport_smp1 (f : Fin 4 → Byte) : (s.setReport f).smp1 = s.smp1 := rfl
@[simp] theorem State.setReport_smp2 (f : Fin 4 → Byte) : (s.setReport f).smp2 = s.smp2 := rfl
@[simp] theorem State.setReport_smpw0 (f : Fin 4 → Byte) : (s.setReport f).smpw0 = s.smpw0 := rfl
@[simp] theorem State.setReport_smpw1 (f : Fin 4 → Byte) : (s.setReport f).smpw1 = s.smpw1 := rfl
@[simp] theorem State.setReport_smpw2 (f : Fin 4 → Byte) : (s.setReport f).smpw2 = s.smpw2 := rfl
@[simp] theorem State.setReport_report0 (f : Fin 4 → Byte) : (s.setReport f).report0 = f 0 := rfl
@[simp] theorem State.setReport_report1 (f : Fin 4 → Byte) : (s.setReport f).report1 = f 1 := rfl
@[simp] theorem State.setReport_report2 (f : Fin 4 → Byte) : (s.setReport f).report2 = f 2 := rfl
@[simp] theorem State.setReport_report3 (f : Fin 4 → Byte) : (s.setReport f).report3 = f 3 := rfl
@[simp] theorem State.setReport_ctrl (f : Fin 4 → Byte) : (s.setReport f).ctrl = s.ctrl := rfl
@[simp] theorem State.setReport_mark (f : Fin 4 → Byte) : (s.setReport f).mark = s.mark := rfl
@[simp] theorem State.setReport_shown (f : Fin 4 → Byte) : (s.setReport f).shown = s.shown := rfl
@[simp] theorem State.setReport_pending (f : Fin 4 → Byte) : (s.setReport f).pending = s.pending := rfl
@[simp] theorem State.setReport_clock (f : Fin 4 → Byte) : (s.setReport f).clock = s.clock := rfl
@[simp] theorem State.setReport_latch (f : Fin 4 → Byte) (i : Fin 2) : (s.setReport f).latch i = s.latch i := rfl
@[simp] theorem State.setReport_snapBit (f : Fin 4 → Byte) (i : Fin 2) : (s.setReport f).snapBit i = s.snapBit i := rfl
@[simp] theorem State.setReport_smp (f : Fin 4 → Byte) (k : Fin 3) : (s.setReport f).smp k = s.smp k := rfl
@[simp] theorem State.setReport_smpw (f : Fin 4 → Byte) (k : Fin 3) : (s.setReport f).smpw k = s.smpw k := rfl
@[simp] theorem State.setReport_adcEn (f : Fin 4 → Byte) : (s.setReport f).adcEn = s.adcEn := rfl
@[simp] theorem State.setReport_tickEn (f : Fin 4 → Byte) : (s.setReport f).tickEn = s.tickEn := rfl
@[simp] theorem State.setReport_firstUnwritten (f : Fin 4 → Byte) : (s.setReport f).firstUnwritten = s.firstUnwritten := rfl
@[simp] theorem State.setReport_cur (f : Fin 4 → Byte) : (s.setReport f).cur = s.cur := rfl
@[simp] theorem State.setReport_pin (f : Fin 4 → Byte) : (s.setReport f).pin = s.pin := rfl
@[simp] theorem State.setReport_adcSample (f : Fin 4 → Byte) (ch : Channel) : (s.setReport f).adcSample ch = s.adcSample ch := rfl
@[simp] theorem State.setReport_edgeSeen (f : Fin 4 → Byte) (i : Fin 2) : (s.setReport f).edgeSeen i = s.edgeSeen i := rfl

@[simp] theorem State.setCtrl_cfg (te ae : Bool) : (s.setCtrl te ae).cfg = s.cfg := rfl
@[simp] theorem State.setCtrl_latch0 (te ae : Bool) : (s.setCtrl te ae).latch0 = s.latch0 := rfl
@[simp] theorem State.setCtrl_latch1 (te ae : Bool) : (s.setCtrl te ae).latch1 = s.latch1 := rfl
@[simp] theorem State.setCtrl_snap (te ae : Bool) : (s.setCtrl te ae).snap = s.snap := rfl
@[simp] theorem State.setCtrl_chsel (te ae : Bool) : (s.setCtrl te ae).chsel = s.chsel := rfl
@[simp] theorem State.setCtrl_smp0 (te ae : Bool) : (s.setCtrl te ae).smp0 = s.smp0 := rfl
@[simp] theorem State.setCtrl_smp1 (te ae : Bool) : (s.setCtrl te ae).smp1 = s.smp1 := rfl
@[simp] theorem State.setCtrl_smp2 (te ae : Bool) : (s.setCtrl te ae).smp2 = s.smp2 := rfl
@[simp] theorem State.setCtrl_smpw0 (te ae : Bool) : (s.setCtrl te ae).smpw0 = s.smpw0 := rfl
@[simp] theorem State.setCtrl_smpw1 (te ae : Bool) : (s.setCtrl te ae).smpw1 = s.smpw1 := rfl
@[simp] theorem State.setCtrl_smpw2 (te ae : Bool) : (s.setCtrl te ae).smpw2 = s.smpw2 := rfl
@[simp] theorem State.setCtrl_report0 (te ae : Bool) : (s.setCtrl te ae).report0 = s.report0 := rfl
@[simp] theorem State.setCtrl_report1 (te ae : Bool) : (s.setCtrl te ae).report1 = s.report1 := rfl
@[simp] theorem State.setCtrl_report2 (te ae : Bool) : (s.setCtrl te ae).report2 = s.report2 := rfl
@[simp] theorem State.setCtrl_report3 (te ae : Bool) : (s.setCtrl te ae).report3 = s.report3 := rfl
@[simp] theorem State.setCtrl_ctrl (te ae : Bool) : (s.setCtrl te ae).ctrl = BitVec.ofBool te ++ BitVec.ofBool ae := rfl
@[simp] theorem State.setCtrl_mark (te ae : Bool) : (s.setCtrl te ae).mark = s.mark := rfl
@[simp] theorem State.setCtrl_shown (te ae : Bool) : (s.setCtrl te ae).shown = s.shown := rfl
@[simp] theorem State.setCtrl_pending (te ae : Bool) : (s.setCtrl te ae).pending = s.pending := rfl
@[simp] theorem State.setCtrl_clock (te ae : Bool) : (s.setCtrl te ae).clock = s.clock := rfl
@[simp] theorem State.setCtrl_latch (te ae : Bool) (i : Fin 2) : (s.setCtrl te ae).latch i = s.latch i := rfl
@[simp] theorem State.setCtrl_snapBit (te ae : Bool) (i : Fin 2) : (s.setCtrl te ae).snapBit i = s.snapBit i := rfl
@[simp] theorem State.setCtrl_smp (te ae : Bool) (k : Fin 3) : (s.setCtrl te ae).smp k = s.smp k := rfl
@[simp] theorem State.setCtrl_smpw (te ae : Bool) (k : Fin 3) : (s.setCtrl te ae).smpw k = s.smpw k := rfl
@[simp] theorem State.setCtrl_report (te ae : Bool) (j : Fin 4) : (s.setCtrl te ae).report j = s.report j := rfl
@[simp] theorem State.setCtrl_reportWord (te ae : Bool) : (s.setCtrl te ae).reportWord = s.reportWord := rfl
@[simp] theorem State.setCtrl_firstUnwritten (te ae : Bool) : (s.setCtrl te ae).firstUnwritten = s.firstUnwritten := rfl
@[simp] theorem State.setCtrl_cur (te ae : Bool) : (s.setCtrl te ae).cur = s.cur := rfl
@[simp] theorem State.setCtrl_pin (te ae : Bool) : (s.setCtrl te ae).pin = s.pin := rfl
@[simp] theorem State.setCtrl_adcSample (te ae : Bool) (ch : Channel) : (s.setCtrl te ae).adcSample ch = s.adcSample ch := rfl
@[simp] theorem State.setCtrl_edgeSeen (te ae : Bool) (i : Fin 2) : (s.setCtrl te ae).edgeSeen i = s.edgeSeen i := rfl

@[simp] theorem State.present_cfg (w : ReportWord) : (s.present w).cfg = s.cfg := rfl
@[simp] theorem State.present_latch0 (w : ReportWord) : (s.present w).latch0 = s.latch0 := rfl
@[simp] theorem State.present_latch1 (w : ReportWord) : (s.present w).latch1 = s.latch1 := rfl
@[simp] theorem State.present_snap (w : ReportWord) : (s.present w).snap = s.snap := rfl
@[simp] theorem State.present_chsel (w : ReportWord) : (s.present w).chsel = s.chsel := rfl
@[simp] theorem State.present_smp0 (w : ReportWord) : (s.present w).smp0 = s.smp0 := rfl
@[simp] theorem State.present_smp1 (w : ReportWord) : (s.present w).smp1 = s.smp1 := rfl
@[simp] theorem State.present_smp2 (w : ReportWord) : (s.present w).smp2 = s.smp2 := rfl
@[simp] theorem State.present_smpw0 (w : ReportWord) : (s.present w).smpw0 = s.smpw0 := rfl
@[simp] theorem State.present_smpw1 (w : ReportWord) : (s.present w).smpw1 = s.smpw1 := rfl
@[simp] theorem State.present_smpw2 (w : ReportWord) : (s.present w).smpw2 = s.smpw2 := rfl
@[simp] theorem State.present_report0 (w : ReportWord) : (s.present w).report0 = s.report0 := rfl
@[simp] theorem State.present_report1 (w : ReportWord) : (s.present w).report1 = s.report1 := rfl
@[simp] theorem State.present_report2 (w : ReportWord) : (s.present w).report2 = s.report2 := rfl
@[simp] theorem State.present_report3 (w : ReportWord) : (s.present w).report3 = s.report3 := rfl
@[simp] theorem State.present_ctrl (w : ReportWord) : (s.present w).ctrl = s.ctrl := rfl
@[simp] theorem State.present_mark (w : ReportWord) : (s.present w).mark = s.mark := rfl
@[simp] theorem State.present_shown (w : ReportWord) : (s.present w).shown = s.shown ++ [w] := rfl
@[simp] theorem State.present_pending (w : ReportWord) : (s.present w).pending = s.pending := rfl
@[simp] theorem State.present_clock (w : ReportWord) : (s.present w).clock = s.clock := rfl
@[simp] theorem State.present_latch (w : ReportWord) (i : Fin 2) : (s.present w).latch i = s.latch i := rfl
@[simp] theorem State.present_snapBit (w : ReportWord) (i : Fin 2) : (s.present w).snapBit i = s.snapBit i := rfl
@[simp] theorem State.present_smp (w : ReportWord) (k : Fin 3) : (s.present w).smp k = s.smp k := rfl
@[simp] theorem State.present_smpw (w : ReportWord) (k : Fin 3) : (s.present w).smpw k = s.smpw k := rfl
@[simp] theorem State.present_report (w : ReportWord) (j : Fin 4) : (s.present w).report j = s.report j := rfl
@[simp] theorem State.present_adcEn (w : ReportWord) : (s.present w).adcEn = s.adcEn := rfl
@[simp] theorem State.present_tickEn (w : ReportWord) : (s.present w).tickEn = s.tickEn := rfl
@[simp] theorem State.present_reportWord (w : ReportWord) : (s.present w).reportWord = s.reportWord := rfl
@[simp] theorem State.present_firstUnwritten (w : ReportWord) : (s.present w).firstUnwritten = s.firstUnwritten := rfl
@[simp] theorem State.present_cur (w : ReportWord) : (s.present w).cur = s.cur := rfl
@[simp] theorem State.present_pin (w : ReportWord) : (s.present w).pin = s.pin := rfl
@[simp] theorem State.present_adcSample (w : ReportWord) (ch : Channel) : (s.present w).adcSample ch = s.adcSample ch := rfl
@[simp] theorem State.present_edgeSeen (w : ReportWord) (i : Fin 2) : (s.present w).edgeSeen i = s.edgeSeen i := rfl

@[simp] theorem State.resetRegisters_cfg : (s.resetRegisters).cfg = s.cfg := rfl
@[simp] theorem State.resetRegisters_latch0 : (s.resetRegisters).latch0 = { act := false, cnt := 0 } := rfl
@[simp] theorem State.resetRegisters_latch1 : (s.resetRegisters).latch1 = { act := false, cnt := 0 } := rfl
@[simp] theorem State.resetRegisters_snap : (s.resetRegisters).snap = BitVec.ofNat 2 s.cfg.snapInit := rfl
@[simp] theorem State.resetRegisters_chsel : (s.resetRegisters).chsel = 0 := rfl
@[simp] theorem State.resetRegisters_smp0 : (s.resetRegisters).smp0 = s.cfg.atAdcBits (Config.freeSmp s.clock 0) := rfl
@[simp] theorem State.resetRegisters_smp1 : (s.resetRegisters).smp1 = s.cfg.atAdcBits (Config.freeSmp s.clock 1) := rfl
@[simp] theorem State.resetRegisters_smp2 : (s.resetRegisters).smp2 = s.cfg.atAdcBits (Config.freeSmp s.clock 2) := rfl
@[simp] theorem State.resetRegisters_smpw0 : (s.resetRegisters).smpw0 = false := rfl
@[simp] theorem State.resetRegisters_smpw1 : (s.resetRegisters).smpw1 = false := rfl
@[simp] theorem State.resetRegisters_smpw2 : (s.resetRegisters).smpw2 = false := rfl
@[simp] theorem State.resetRegisters_report0 : (s.resetRegisters).report0 = 0#8 := rfl
@[simp] theorem State.resetRegisters_report1 : (s.resetRegisters).report1 = 0#8 := rfl
@[simp] theorem State.resetRegisters_report2 : (s.resetRegisters).report2 = 0#8 := rfl
@[simp] theorem State.resetRegisters_report3 : (s.resetRegisters).report3 = 0#8 := rfl
@[simp] theorem State.resetRegisters_ctrl : (s.resetRegisters).ctrl = 0#2 := rfl
@[simp] theorem State.resetRegisters_mark : (s.resetRegisters).mark = s.mark := rfl
@[simp] theorem State.resetRegisters_shown : (s.resetRegisters).shown = s.shown := rfl
@[simp] theorem State.resetRegisters_pending : (s.resetRegisters).pending = s.pending := rfl
@[simp] theorem State.resetRegisters_clock : (s.resetRegisters).clock = s.clock := rfl
@[simp] theorem State.resetRegisters_cur : (s.resetRegisters).cur = s.cur := rfl
@[simp] theorem State.resetRegisters_pin : (s.resetRegisters).pin = s.pin := rfl
@[simp] theorem State.resetRegisters_adcSample (ch : Channel) : (s.resetRegisters).adcSample ch = s.adcSample ch := rfl

@[simp] theorem State.endCycle_cfg : (s.endCycle).cfg = s.cfg := rfl
@[simp] theorem State.endCycle_latch0 : (s.endCycle).latch0 = s.latch0 := rfl
@[simp] theorem State.endCycle_latch1 : (s.endCycle).latch1 = s.latch1 := rfl
@[simp] theorem State.endCycle_snap : (s.endCycle).snap = s.snap := rfl
@[simp] theorem State.endCycle_chsel : (s.endCycle).chsel = s.chsel := rfl
@[simp] theorem State.endCycle_smp0 : (s.endCycle).smp0 = s.smp0 := rfl
@[simp] theorem State.endCycle_smp1 : (s.endCycle).smp1 = s.smp1 := rfl
@[simp] theorem State.endCycle_smp2 : (s.endCycle).smp2 = s.smp2 := rfl
@[simp] theorem State.endCycle_smpw0 : (s.endCycle).smpw0 = s.smpw0 := rfl
@[simp] theorem State.endCycle_smpw1 : (s.endCycle).smpw1 = s.smpw1 := rfl
@[simp] theorem State.endCycle_smpw2 : (s.endCycle).smpw2 = s.smpw2 := rfl
@[simp] theorem State.endCycle_report0 : (s.endCycle).report0 = s.report0 := rfl
@[simp] theorem State.endCycle_report1 : (s.endCycle).report1 = s.report1 := rfl
@[simp] theorem State.endCycle_report2 : (s.endCycle).report2 = s.report2 := rfl
@[simp] theorem State.endCycle_report3 : (s.endCycle).report3 = s.report3 := rfl
@[simp] theorem State.endCycle_ctrl : (s.endCycle).ctrl = s.ctrl := rfl
@[simp] theorem State.endCycle_mark : (s.endCycle).mark = s.mark := rfl
@[simp] theorem State.endCycle_shown : (s.endCycle).shown = s.shown := rfl
@[simp] theorem State.endCycle_pending : (s.endCycle).pending = s.pending.tail := rfl
@[simp] theorem State.endCycle_clock : (s.endCycle).clock = s.clock + 1 := rfl
@[simp] theorem State.endCycle_latch (i : Fin 2) : (s.endCycle).latch i = s.latch i := rfl
@[simp] theorem State.endCycle_snapBit (i : Fin 2) : (s.endCycle).snapBit i = s.snapBit i := rfl
@[simp] theorem State.endCycle_smp (k : Fin 3) : (s.endCycle).smp k = s.smp k := rfl
@[simp] theorem State.endCycle_smpw (k : Fin 3) : (s.endCycle).smpw k = s.smpw k := rfl
@[simp] theorem State.endCycle_report (j : Fin 4) : (s.endCycle).report j = s.report j := rfl
@[simp] theorem State.endCycle_adcEn : (s.endCycle).adcEn = s.adcEn := rfl
@[simp] theorem State.endCycle_tickEn : (s.endCycle).tickEn = s.tickEn := rfl
@[simp] theorem State.endCycle_reportWord : (s.endCycle).reportWord = s.reportWord := rfl
@[simp] theorem State.endCycle_firstUnwritten : (s.endCycle).firstUnwritten = s.firstUnwritten := rfl

@[simp] theorem State.stop_cfg (f : Fault) : (s.stop f).cfg = s.cfg := rfl
@[simp] theorem State.stop_latch0 (f : Fault) : (s.stop f).latch0 = s.latch0 := rfl
@[simp] theorem State.stop_latch1 (f : Fault) : (s.stop f).latch1 = s.latch1 := rfl
@[simp] theorem State.stop_snap (f : Fault) : (s.stop f).snap = s.snap := rfl
@[simp] theorem State.stop_chsel (f : Fault) : (s.stop f).chsel = s.chsel := rfl
@[simp] theorem State.stop_smp0 (f : Fault) : (s.stop f).smp0 = s.smp0 := rfl
@[simp] theorem State.stop_smp1 (f : Fault) : (s.stop f).smp1 = s.smp1 := rfl
@[simp] theorem State.stop_smp2 (f : Fault) : (s.stop f).smp2 = s.smp2 := rfl
@[simp] theorem State.stop_smpw0 (f : Fault) : (s.stop f).smpw0 = s.smpw0 := rfl
@[simp] theorem State.stop_smpw1 (f : Fault) : (s.stop f).smpw1 = s.smpw1 := rfl
@[simp] theorem State.stop_smpw2 (f : Fault) : (s.stop f).smpw2 = s.smpw2 := rfl
@[simp] theorem State.stop_report0 (f : Fault) : (s.stop f).report0 = s.report0 := rfl
@[simp] theorem State.stop_report1 (f : Fault) : (s.stop f).report1 = s.report1 := rfl
@[simp] theorem State.stop_report2 (f : Fault) : (s.stop f).report2 = s.report2 := rfl
@[simp] theorem State.stop_report3 (f : Fault) : (s.stop f).report3 = s.report3 := rfl
@[simp] theorem State.stop_ctrl (f : Fault) : (s.stop f).ctrl = s.ctrl := rfl
@[simp] theorem State.stop_mark (f : Fault) : (s.stop f).mark = some f := rfl
@[simp] theorem State.stop_shown (f : Fault) : (s.stop f).shown = s.shown := rfl
@[simp] theorem State.stop_pending (f : Fault) : (s.stop f).pending = s.pending := rfl
@[simp] theorem State.stop_clock (f : Fault) : (s.stop f).clock = s.clock := rfl
@[simp] theorem State.stop_latch (f : Fault) (i : Fin 2) : (s.stop f).latch i = s.latch i := rfl
@[simp] theorem State.stop_snapBit (f : Fault) (i : Fin 2) : (s.stop f).snapBit i = s.snapBit i := rfl
@[simp] theorem State.stop_smp (f : Fault) (k : Fin 3) : (s.stop f).smp k = s.smp k := rfl
@[simp] theorem State.stop_smpw (f : Fault) (k : Fin 3) : (s.stop f).smpw k = s.smpw k := rfl
@[simp] theorem State.stop_report (f : Fault) (j : Fin 4) : (s.stop f).report j = s.report j := rfl
@[simp] theorem State.stop_adcEn (f : Fault) : (s.stop f).adcEn = s.adcEn := rfl
@[simp] theorem State.stop_tickEn (f : Fault) : (s.stop f).tickEn = s.tickEn := rfl
@[simp] theorem State.stop_reportWord (f : Fault) : (s.stop f).reportWord = s.reportWord := rfl
@[simp] theorem State.stop_firstUnwritten (f : Fault) : (s.stop f).firstUnwritten = s.firstUnwritten := rfl
@[simp] theorem State.stop_cur (f : Fault) : (s.stop f).cur = s.cur := rfl
@[simp] theorem State.stop_pin (f : Fault) : (s.stop f).pin = s.pin := rfl
@[simp] theorem State.stop_adcSample (f : Fault) (ch : Channel) : (s.stop f).adcSample ch = s.adcSample ch := rfl
@[simp] theorem State.stop_edgeSeen (f : Fault) (i : Fin 2) : (s.stop f).edgeSeen i = s.edgeSeen i := rfl

@[simp] theorem State.setLatches_latch (f : Fin 2 → Latch) (i : Fin 2) : (s.setLatches f).latch i = f i := by
  fin_cases i <;> rfl

theorem State.setSample_smp (k' : Fin 3) (v : Sample) (k : Fin 3) :
    (s.setSample k' v).smp k = if k' = k then v else s.smp k := by
  fin_cases k <;> rfl

theorem State.setSample_smpw (k' : Fin 3) (v : Sample) (k : Fin 3) :
    (s.setSample k' v).smpw k = if k' = k then true else s.smpw k := by
  fin_cases k <;> rfl

@[simp] theorem State.setReport_report (f : Fin 4 → Byte) (j : Fin 4) : (s.setReport f).report j = f j := by
  fin_cases j <;> rfl

/-- The two bits of a CTRL or SNAP value put together from its bit 1 and its bit 0. -/
theorem twoBits (b a : Bool) :
    (BitVec.ofBool b ++ BitVec.ofBool a).getLsbD 0 = a ∧ (BitVec.ofBool b ++ BitVec.ofBool a).getLsbD 1 = b := by
  revert b a
  decide

@[simp] theorem State.setCtrl_adcEn (te ae : Bool) : (s.setCtrl te ae).adcEn = ae :=
  (twoBits te ae).1

@[simp] theorem State.setCtrl_tickEn (te ae : Bool) : (s.setCtrl te ae).tickEn = te :=
  (twoBits te ae).2

@[simp] theorem State.resetRegisters_latch (i : Fin 2) : s.resetRegisters.latch i = { act := false, cnt := 0 } := by
  fin_cases i <;> rfl

@[simp] theorem State.resetRegisters_smpw (k : Fin 3) : s.resetRegisters.smpw k = false := by
  fin_cases k <;> rfl

@[simp] theorem State.resetRegisters_report (j : Fin 4) : s.resetRegisters.report j = 0#8 := by
  fin_cases j <;> rfl

@[simp] theorem State.resetRegisters_adcEn : s.resetRegisters.adcEn = false :=
  (twoBits false false).1

@[simp] theorem State.resetRegisters_tickEn : s.resetRegisters.tickEn = false :=
  (twoBits false false).2

@[simp] theorem State.latch_zero : s.latch 0 = s.latch0 := rfl

@[simp] theorem State.latch_one : s.latch 1 = s.latch1 := rfl

/-- SNAP after an EDGE holds the two toggle levels (R92). -/
@[simp] theorem snapOf_bit (c : Config) (p : PortLevels) (i : Fin 2) :
    (snapOf c p).getLsbD i.val = toggleLevel c p i := by
  fin_cases i
  · exact (twoBits _ _).1
  · exact (twoBits _ _).2

/-- `firstUnwritten` answers none exactly when every slot has its sample. -/
theorem State.firstUnwritten_eq_none :
    s.firstUnwritten = none ↔ s.smpw0 = true ∧ s.smpw1 = true ∧ s.smpw2 = true := by
  unfold State.firstUnwritten
  cases s.smpw0 <;> cases s.smpw1 <;> cases s.smpw2 <;> simp

end Sys2Proof.Machine
end

