-- ==== Sys2Proof/Laws/Ops.lean ====
section
/-! SUPPORT. One lemma for each shared operation: everything it can do when it answers a next state. -/

namespace Sys2Proof.Machine

@[simp] theorem andThen_next (s : State) (k : State → Result) : andThen (.next s) k = k s := rfl

@[simp] theorem andThen_raise (f : Fault) (k : State → Result) : andThen (raise f) k = .fault f := rfl

@[simp] theorem andThen_fault (f : Fault) (k : State → Result) : andThen (.fault f) k = .fault f := rfl

@[simp] theorem raise_eq (f : Fault) : raise f = .fault f := rfl

/-- A sequence answers a next state only through a next state of its first part. -/
theorem andThen_eq_next {r : Result} {k : State → Result} {t : State} (h : andThen r k = .next t) :
    ∃ u, r = .next u ∧ k u = .next t := by
  cases r with
  | next u => exact ⟨u, rfl, h⟩
  | fault f => cases h
  | refused q => cases h

@[simp] theorem execAll_nil (s : State) : execAll [] s = .next s := rfl

theorem execAll_cons (i : Instr) (is : List Instr) (s : State) :
    execAll (i :: is) s = andThen (exec i s) (execAll is) := rfl

theorem execAll_append (is js : List Instr) (s : State) :
    execAll (is ++ js) s = andThen (execAll is s) (execAll js) := by
  induction is generalizing s with
  | nil => rfl
  | cons i is ih =>
    rw [List.cons_append, execAll_cons, execAll_cons]
    cases exec i s with
    | next u => exact ih u
    | fault f => rfl
    | refused q => rfl

/-- The channel of a CONVERT fits CH_BITS. -/
theorem channelOf_lt (c : Config) (ch : Chan) : channelOf c ch < 2 ^ c.chBits := Nat.mod_lt _ (Nat.two_pow_pos _)

/-- A CH field is its own channel when CH_BITS is 5 or more. -/
theorem channelOf_wide {c : Config} (ch : Chan) (h : 5 ≤ c.chBits) : channelOf c ch = ch.toNat :=
  Nat.mod_eq_of_lt (lt_of_lt_of_le ch.isLt (Nat.pow_le_pow_right (by decide) h))

/-- What the ADC gives, and what a reset leaves in a slot, fits ADC_BITS. -/
theorem atAdcBits_lt (c : Config) (v : Nat) : c.atAdcBits v < 2 ^ c.adcBits := Nat.mod_lt _ (Nat.two_pow_pos _)

/-- The port has PIN_BITS wires. -/
theorem pin_lt (s : State) : s.pin < 2 ^ s.cfg.pinBits := Nat.mod_lt _ (Nat.two_pow_pos _)

/-- CONVERT answers a next state only with the ADC enabled and a legal slot, and then writes CHSEL and that slot. -/
theorem execConvert_next {slot : Slot} {ch : Chan} {s t : State} (h : execConvert slot ch s = .next t) :
    ∃ k, slotIndex slot = some k ∧ s.adcEn = true ∧
      t = (s.setChsel (channelOf s.cfg ch)).setSample k (s.adcSample (channelOf s.cfg ch)) := by
  unfold execConvert at h
  split at h
  · cases h
  · rename_i k hk
    split at h
    · rename_i ha
      injection h with h
      exact ⟨k, hk, ha, h.symm⟩
    · cases h

/-- COMPOSE answers a next state only with every slot written, and then overwrites the report. -/
theorem execCompose_next {s t : State} (h : execCompose s = .next t) :
    s.firstUnwritten = none ∧ t = s.setReport s.composed := by
  unfold execCompose at h
  split at h
  · cases h
  · rename_i hn
    injection h with h
    exact ⟨hn, h.symm⟩

/-- Everything one operation can do when it answers a next state. -/
theorem exec_next {i : Instr} {s t : State} (h : exec i s = .next t) :
    (i = .nop ∧ t = s) ∨
    (∃ slot ch k, i = .convert slot ch ∧ slotIndex slot = some k ∧ s.adcEn = true ∧
      t = (s.setChsel (channelOf s.cfg ch)).setSample k (s.adcSample (channelOf s.cfg ch))) ∨
    (i = .edge ∧ t = (s.setLatches fun j => if s.edgeSeen j then Latch.trigger s.cfg else s.latch j).setSnap
      (snapOf s.cfg s.pin)) ∨
    (i = .compose ∧ s.firstUnwritten = none ∧ t = s.setReport s.composed) ∨
    (∃ te ae, i = .setctrl te ae ∧ t = s.setCtrl te ae) ∨
    (i = .tick ∧ t = if s.tickEn then s.setLatches fun j => (s.latch j).countdown else s) ∨
    (i = .read ∧ t = s.present s.reportWord) ∨
    (i = .reset ∧ t = s.resetRegisters) := by
  cases i with
  | nop => injection h with h; exact .inl ⟨rfl, h.symm⟩
  | convert slot ch =>
    obtain ⟨k, hk, ha, ht⟩ := execConvert_next h
    exact .inr (.inl ⟨slot, ch, k, rfl, hk, ha, ht⟩)
  | edge => injection h with h; exact .inr (.inr (.inl ⟨rfl, h.symm⟩))
  | compose => exact .inr (.inr (.inr (.inl ⟨rfl, execCompose_next h⟩)))
  | setctrl te ae => injection h with h; exact .inr (.inr (.inr (.inr (.inl ⟨te, ae, rfl, h.symm⟩))))
  | tick => injection h with h; exact .inr (.inr (.inr (.inr (.inr (.inl ⟨rfl, h.symm⟩)))))
  | read => injection h with h; exact .inr (.inr (.inr (.inr (.inr (.inr (.inl ⟨rfl, h.symm⟩))))))
  | reset => injection h with h; exact .inr (.inr (.inr (.inr (.inr (.inr (.inr ⟨rfl, h.symm⟩))))))

/-- Everything a step can do when it answers a next state: the state is live, the inputs are no illegal word, and the
operations of the cycle ran one after another before the cycle ended. -/
theorem step_next {s t : State} (h : step s = .next t) :
    s.Live ∧ ∃ is u, s.cur.operations = .ok is ∧ execAll is s = .next u ∧ t = u.endCycle := by
  unfold step clockEdge at h
  split at h
  · rename_i hl
    split at h
    · rename_i ho
      split at h
      · cases h
      · rename_i hm
        unfold runCycle at h
        split at h
        · cases h
        · rename_i is his
          obtain ⟨u, hu, ht⟩ := andThen_eq_next h
          injection ht with ht
          exact ⟨⟨hl, ho, hm⟩, is, u, his, hu, ht.symm⟩
    · cases h
  · cases h

/-- The step of a live state is one cycle. -/
theorem step_of_live {s : State} (h : s.Live) : step s = runCycle s := by
  unfold step clockEdge
  rw [h.legal, h.laidOut, h.unmarked]
  rfl

/-- A run of `n + 1` cycles is a step and a run of `n`. -/
theorem run_succ (n : Nat) (s : State) : run (n + 1) s = andThen (step s) (run n) := rfl

@[simp] theorem run_zero (s : State) : run 0 s = .next s := rfl

end Sys2Proof.Machine
end

