-- ==== Sys2Proof/Laws/Cycle.lean ====
section
/-! SUPPORT. What each operation without a stop answers, and what one cycle is: the strobes first, then the command. -/

namespace Sys2Proof.Machine

@[simp] theorem exec_nop (s : State) : exec .nop s = .next s := rfl

@[simp] theorem exec_read (s : State) : exec .read s = .next (s.present s.reportWord) := rfl

@[simp] theorem exec_tick (s : State) :
    exec .tick s = .next (if s.tickEn then s.setLatches fun i => (s.latch i).countdown else s) := rfl

@[simp] theorem exec_edge (s : State) : exec .edge s =
    .next ((s.setLatches fun i => if s.edgeSeen i then Latch.trigger s.cfg else s.latch i).setSnap
      (snapOf s.cfg s.pin)) := rfl

@[simp] theorem exec_setctrl (te ae : Bool) (s : State) : exec (.setctrl te ae) s = .next (s.setCtrl te ae) := rfl

@[simp] theorem exec_reset (s : State) : exec .reset s = .next s.resetRegisters := rfl

@[simp] theorem execAll_single (i : Instr) (s : State) : execAll [i] s = exec i s := by
  rw [execAll_cons]
  cases exec i s <;> rfl

/-- The state after the READ and the TICK of a cycle (R48). -/
def afterStrobes (s : State) : State :=
  { s with
    latch0 := if s.cur.tick && s.tickEn then s.latch0.countdown else s.latch0
    latch1 := if s.cur.tick && s.tickEn then s.latch1.countdown else s.latch1
    shown := if s.cur.rd then s.shown ++ [s.reportWord] else s.shown }

/-- A cycle without `rst` whose command is not COMPOSE is that command after the strobes. -/
theorem runCycle_command {s : State} {i : Instr} (hr : s.cur.rst = false) (hc : s.cur.command = .legal i)
    (hi : i ≠ .compose) : runCycle s = andThen (exec i (afterStrobes s)) fun t => .next t.endCycle := by
  have h : execAll (s.cur.serial i) s = exec i (afterStrobes s) := by
    unfold Cycle.serial afterStrobes
    rw [if_neg hi, if_neg hi, List.append_nil, execAll_append, execAll_append]
    cases s.cur.rd <;> cases s.cur.tick <;> cases hte : s.tickEn <;> simp [hte] <;> rfl
  unfold runCycle Cycle.operations
  simp [hr, hc, h]

/-- A cycle without `rst` whose command is COMPOSE overwrites the report from the registers before the cycle. -/
theorem runCycle_compose {s : State} (hr : s.cur.rst = false) (hc : s.cur.command = .legal .compose) :
    runCycle s = andThen (execCompose s) fun _ => .next ((afterStrobes s).setReport s.composed).endCycle := by
  have h : execAll (s.cur.serial .compose) s =
      andThen (execCompose s) fun _ => .next ((afterStrobes s).setReport s.composed) := by
    unfold Cycle.serial afterStrobes
    rw [if_pos rfl, if_pos rfl, List.append_nil, execAll_append, execAll_append]
    cases hf : s.firstUnwritten <;> cases s.cur.rd <;> cases s.cur.tick <;> cases hte : s.tickEn <;>
      simp [exec, execCompose, execRead, execTick, hf, hte] <;> rfl
  unfold runCycle Cycle.operations
  simp only [hr, hc, h, Bool.false_eq_true, if_false]
  cases execCompose s <;> rfl

/-- A cycle with `rst` resets every register, after a READ of the report before it. -/
theorem runCycle_reset {s : State} (hr : s.cur.rst = true) : runCycle s = .next
    { s.resetRegisters with
      shown := if s.cur.rd then s.shown ++ [s.reportWord] else s.shown
      pending := s.pending.tail
      clock := s.clock + 1 } := by
  unfold runCycle Cycle.operations Cycle.resetSerial
  simp only [hr, if_true]
  rw [execAll_append]
  cases s.cur.rd <;> simp <;> rfl

end Sys2Proof.Machine
end

