-- ==== Sys2Proof/Laws/PerInstr.lean ====
section
/-! SUPPORT. The per-instruction family OpField: the encoder puts the OP value of 30_encoding.md R62 into bits 15:12 of a
command's word, and gives a strobe no word (R67). -/

namespace Sys2Proof.Laws.OpField

/-- The OP field of the word of `i` is the OP value of R62, and a strobe has neither. -/
def Statement (i : Instr) : Prop :=
  (encode i).map opField = i.opcode ∧ (encode i).isNone = i.isStrobe

theorem nop : Statement .nop := ⟨by decide, rfl⟩

theorem convert (slot : Slot) (ch : Chan) : Statement (.convert slot ch) := by
  refine ⟨?_, rfl⟩
  simp only [encode, Instr.opcode, Option.map_some]
  congr 1
  ext n hn
  simp only [opField, BitVec.getElem_extractLsb', BitVec.getLsbD_append]
  interval_cases n <;> simp

theorem edge : Statement .edge := ⟨by decide, rfl⟩

theorem compose : Statement .compose := ⟨by decide, rfl⟩

theorem setctrl (te ae : Bool) : Statement (.setctrl te ae) := by
  refine ⟨?_, rfl⟩
  cases te <;> cases ae <;> decide

theorem tick : Statement .tick := ⟨rfl, rfl⟩

theorem read : Statement .read := ⟨rfl, rfl⟩

theorem reset : Statement .reset := ⟨rfl, rfl⟩

end Sys2Proof.Laws.OpField
end

