-- ==== Sys2Proof/Tests/Slice0.lean ====
section
/-! SUPPORT. The model's own tests. Expected values are the spec's: 95_test_vectors.md (its section is named at each test)
or a word written out from the patterns of R61. The witnesses show that the hypotheses of each statement can be met. -/

namespace Sys2Proof.Tests

open Sys2Proof.Machine

/-! ### Helpers -/

/-- The default configuration with SNAP_INIT = 0b11 and a tick period of 2 cycles. -/
def cfg3 : Config := { Config.default with snapInit := 3, tickPeriod := some 2 }

/-- A state with given latches, SNAP and CTRL, the rest as after reset. -/
def latched (l0 l1 : Latch) (snap ctrl : BitVec 2) (cs : List Cycle) : State :=
  { State.resetWith cfg3 with latch0 := l0, latch1 := l1, snap := snap, ctrl := ctrl, pending := cs }

/-- A state with three samples, all marked written. -/
def sampled (a b c : Sample) (l0 l1 : Latch) (ctrl : BitVec 2) (cs : List Cycle) : State :=
  { latched l0 l1 3 ctrl cs with smp0 := a, smp1 := b, smp2 := c, smpw0 := true, smpw1 := true, smpw2 := true }

/-- A cycle that presents a word, with given port levels. -/
def word (w : CmdWord) (p : PortLevels) : Cycle := { Cycle.ofWord w with pin := some p }

/-- The same with a tick. -/
def ticked (w : CmdWord) (p : PortLevels) : Cycle := { word w p with tick := true }

/-- A cycle with only a tick. -/
def tickOnly : Cycle := { Cycle.idle with tick := true }

/-- A cycle with only `rst`. -/
def rstOnly : Cycle := { Cycle.idle with rst := true }

def idleLatch : Latch := { act := false, cnt := 0 }

/-- Some property of the next state of an outcome that has one. -/
def after (r : Result) (p : State → Bool) : Bool :=
  match r with
  | .next t => p t
  | .fault _ => false
  | .refused _ => false

/-- The next state, for an outcome that has one. -/
def got (r : Result) : State := (nextState r).getD State.reset

theorem next_got {r : Result} (h : (nextState r).isSome = true) : r = .next (got r) := by
  cases r with
  | next t => rfl
  | fault f => cases h
  | refused q => cases h

/-! ### Well-formedness -/

/-- SLOT = 3 is ill-formed (R65 b); SLOT = 2 is not. -/
theorem test_wf_slot : Instr.wf (.convert 3 0) = false ∧ Instr.wf (.convert 2 31) = true := by decide

/-! ### Decoding: words written out bit by bit from R61 -/

theorem test_decode_nop : decode 0b0000000000000000#16 = .legal .nop := by decide
theorem test_decode_convert : decode 0b0001100000010011#16 = .legal (.convert 0b10 0b10011) := by decide
theorem test_decode_edge : decode 0b0010000000000000#16 = .legal .edge := by decide
theorem test_decode_compose : decode 0b0011000000000000#16 = .legal .compose := by decide
theorem test_decode_setctrl_te : decode 0b0100000000000010#16 = .legal (.setctrl true false) := by decide
theorem test_decode_setctrl_ae : decode 0b0100000000000001#16 = .legal (.setctrl false true) := by decide
/-- One word for each clause of R65. -/
theorem test_decode_illegal :
    decode 0b1111000000000000#16 = .illegal .reservedOp ∧ decode 0b0001110000000000#16 = .illegal .slotThree ∧
    decode 0b0001000000100000#16 = .illegal .convertReservedBits ∧
    decode 0b0010100000000000#16 = .illegal .operandBits ∧
    decode 0b0100000000000100#16 = .illegal .setctrlReservedBits := by decide
/-- The strobes are the inputs of R67. -/
theorem test_strobe_cycles :
    (Cycle.ofInstr .tick none none).tick = true ∧ (Cycle.ofInstr .read none none).rd = true ∧
    (Cycle.ofInstr .reset none none).rst = true := by decide
theorem test_table_word : decodeTableWord 16 0x1405 = some (.convert 1 5) ∧ decodeTableWord 16 0x1C00 = none := by decide

/-! ### One step of each operation (95_test_vectors.md) -/

/-- R80's example: CONVERT 2, 7 with AdcSample(7) = 0x155. -/
theorem test_convert_example :
    after (exec (.convert 2 7) (latched idleLatch idleLatch 0 1 [{ Cycle.idle with adc := some 0x155 }]))
      (fun t => t.chsel == 7 && t.smp2 == 0x155 && t.smpw2 && !t.smpw0) = true := by decide
/-- 2.2: CTRL = 10 (ticks only). -/
theorem test_convert_disabled :
    faultOf (exec (.convert 0 0) (latched idleLatch idleLatch 0 2 [])) = some (.adcDisabled 0 0) := by decide
/-- 2.3: CNT = 6 reloads 16, the other latch is left. -/
theorem test_edge_retrigger :
    after (exec .edge (latched ⟨true, 6⟩ idleLatch 2 0 [word 0x2000 0xFF]))
      (fun t => t.latch0 == ⟨true, 16⟩ && t.latch1 == idleLatch && t.snap == 3) = true := by decide
/-- 2.3: TOGGLE_PIN = (1, 0), pin 0 feeds latch 1. -/
theorem test_edge_swapped_pins :
    after (exec .edge { latched idleLatch idleLatch 0 0 [word 0x2000 0x01] with
        cfg := { cfg3 with togglePin0 := 1, togglePin1 := 0 } })
      (fun t => t.latch0 == idleLatch && t.latch1 == ⟨true, 16⟩ && t.snap == 2) = true := by decide
/-- 2.4: 1 goes to 0 and clears ACT, 9 goes to 8. -/
theorem test_tick_clears :
    after (exec .tick (latched ⟨true, 1⟩ ⟨true, 9⟩ 0 2 []))
      (fun t => t.latch0 == idleLatch && t.latch1 == ⟨true, 8⟩) = true := by decide
/-- 2.4: no wrap, and the unreachable (1, 0) is left alone. -/
theorem test_tick_no_wrap :
    after (exec .tick (latched idleLatch ⟨true, 0⟩ 0 2 []))
      (fun t => t.latch0 == idleLatch && t.latch1 == ⟨true, 0⟩) = true := by decide
/-- R110's example. -/
theorem test_compose_example :
    after (exec .compose (sampled 0x3FF 0x200 0x003 ⟨true, 16⟩ idleLatch 0 [word 0x3000 0xFB]))
      (fun t => t.report0 == 0xFF && t.report1 == 0x80 && t.report2 == 0 && t.report3 == 0x06) = true := by decide
/-- 2.6: SMPW = 110 names k = 2. -/
theorem test_compose_unwritten :
    faultOf (exec .compose { State.reset with smpw0 := true, smpw1 := true }) = some (.unwrittenSample 2) := by decide
/-- R115's example. -/
theorem test_read_example :
    after (exec .read { State.reset with report0 := 0xFF, report1 := 0x80, report3 := 0x06 })
      (fun t => t.shown == [0x060080FF]) = true := by decide
/-- 2.8: CTRL = 00, SETCTRL 3; and TE is bit 1. -/
theorem test_setctrl :
    after (exec (.setctrl true false) State.reset) (fun t => t.tickEn && !t.adcEn && t.ctrl == 2) = true := by decide
/-- 2.8: reset of a busy block with SNAP_INIT = 0b11. -/
theorem test_reset :
    after (exec .reset (sampled 1 2 3 ⟨true, 5⟩ ⟨true, 9⟩ 3 []))
      (fun t => t.latch0 == idleLatch && t.snap == 3 && t.ctrl == 0 && !t.smpw1 && t.report3 == 0) = true := by decide

/-! ### Same-cycle events (2.5) and the output byte (2.6) -/

/-- The trigger wins on latch 0, the tick is applied to latch 1. -/
theorem test_trigger_beats_tick :
    after (step (latched ⟨true, 5⟩ ⟨true, 7⟩ 3 2 [ticked 0x2000 0xFE]))
      (fun t => t.latch0 == ⟨true, 16⟩ && t.latch1 == ⟨true, 6⟩) = true := by decide
/-- COMPOSE sees the ACT before the tick that clears it. -/
theorem test_compose_before_tick :
    after (step (sampled 0 0 0 ⟨true, 1⟩ idleLatch 2 [ticked 0x3000 0xFF]))
      (fun t => t.report3 == 0x02 && t.latch0 == idleLatch) = true := by decide
/-- SETCTRL 3 with a tick: the old TICK_EN = 0 drops it. -/
theorem test_setctrl_old_enable :
    after (step (latched ⟨true, 4⟩ idleLatch 3 1 [ticked 0x4003 0xFF]))
      (fun t => t.latch0 == ⟨true, 4⟩ && t.ctrl == 3) = true := by decide
/-- rst with rd, a tick and an illegal word: no fault, the reader sees the old report. -/
theorem test_rst_overrides :
    after (step { latched ⟨true, 4⟩ idleLatch 0 3 [{ ticked 0xFFFF 0 with rst := true, rd := true }] with report3 := 0x7F })
      (fun t => t.shown == [0x7F000000] && t.latch0 == idleLatch && t.ctrl == 0 && t.snap == 3) = true := by decide
/-- P4c: an illegal word with a tick. -/
theorem test_illegal_word :
    faultOf (step (latched idleLatch idleLatch 3 3 [ticked 0x1C00 0xFF])) = some (.illegalCommand 0x1C00) := by decide
/-- 2.6: mask 0xFC carries pin 7; no inversion; overlapping mask 0x7F. -/
theorem test_button_byte :
    buttons { cfg3 with buttonMask := 0xFC } 0x7F false false = 0x80 ∧
    buttons { cfg3 with btnInvert := false } 0x04 false false = 0x04 ∧
    buttons { cfg3 with buttonMask := 0x7F } 0xFC false false = 0x03 ∧ buttons cfg3 0x83 true true = 0x7F := by decide
/-- V-AX. -/
theorem test_axis_table : axis 0x003 = 0 ∧ axis 0x004 = 1 ∧ axis 0x1FF = 0x7F ∧ axis 0x2AB = 0xAA ∧ axis 0x3FC = 0xFF := by
  decide
/-- R133: PULSE_LENGTH = 0 and 256, equal pins, a pin out of range, a mask and a SNAP_INIT too wide are refused. -/
theorem test_illegal_configs :
    Config.legal { cfg3 with pulseLength := 0 } = false ∧ Config.legal { cfg3 with pulseLength := 256 } = false ∧
    Config.legal { cfg3 with pulseLength := 255 } = true ∧ Config.legal { cfg3 with togglePin1 := 0 } = false ∧
    Config.legal { cfg3 with togglePin1 := 8 } = false ∧ Config.legal { cfg3 with buttonMask := 256 } = false ∧
    Config.legal { cfg3 with snapInit := 4 } = false := by decide
/-- R70's examples and range checks, R71's ITER. -/
theorem test_assembler :
    assembleLine cfg3 "CONVERT 1, 5".toList = some [Cycle.ofWord 0x1405] ∧
    assembleLine cfg3 "SETCTRL 0x3 ;; TICK PIN=0xFB".toList = some [ticked 0x4003 0xFB] ∧
    assembleLine cfg3 "EDGE ;; PIN=0x100".toList = none ∧ assembleLine cfg3 "CONVERT 0, 1 ;; ADC=1024".toList = none ∧
    assembleLine cfg3 "CONVERT 3, 0".toList = none ∧ assembleLine cfg3 "CONVERT 0, 32".toList = none ∧
    (assembleLine cfg3 "ITER 0, 1, 2".toList).map (·.map Cycle.cmd) = some [0x1000, 0x1401, 0x1802, 0x2000, 0x3000] := by
  decide

/-! ### Witnesses: the hypotheses of each statement are met by a concrete state -/

/-- A live state. -/
theorem live_latched (l0 l1 : Latch) (a b : BitVec 2) (cs : List Cycle) : (latched l0 l1 a b cs).Live :=
  ⟨(by decide : cfg3.legal = true), (by decide : cfg3.laidOut = true), rfl⟩

theorem test_witness_ResetCycleOverridesAll :
    ∃ s : State, s.Live ∧ s.cur.rst = true := ⟨latched idleLatch idleLatch 0 3 [rstOnly], live_latched _ _ _ _ _, rfl⟩

theorem test_witness_DecodeInvertsEncode : (Instr.convert 2 31).WellFormed ∧ (Instr.convert 2 31).isStrobe = false := by
  decide

theorem test_witness_EncodeInvertsDecode : decode 0x181F#16 = .legal (.convert 2 31) := by decide

/-- Each clause of R65 at the boundary of its range. -/
theorem test_witness_IllegalWordsAreTheListed :
    [0x5000#16, 0x1C00#16, 0x1020#16, 0x1200#16, 0x0001#16, 0x2FFF#16, 0x3800#16, 0x4004#16, 0x4800#16].all
      (fun w => (decode w).instr?.isNone) = true ∧
    ∃ s : State, s.Live ∧ s.cur.rst = false ∧ s.cur.cmdValid = true ∧ (decode s.cur.cmd).instr? = none :=
  ⟨by decide, latched idleLatch idleLatch 0 3 [word 0x4FFF 0], live_latched _ _ _ _ _, rfl, rfl, by decide⟩

theorem test_witness_CommandCycleRunsItsCommand :
    ∃ s : State, s.Live ∧ s.cur.rst = false ∧ s.cur.tick = false ∧ s.cur.rd = false ∧ s.cur.cmdValid = true ∧
      decode s.cur.cmd = .legal .edge :=
  ⟨latched idleLatch idleLatch 0 3 [word 0x2000 0], live_latched _ _ _ _ _, rfl, rfl, rfl, rfl, by decide⟩

theorem test_witness_EncodedCycleRunsItsOperation :
    ∃ s : State, s.Live ∧ Instr.WellFormed .tick ∧ s.pending = Cycle.ofInstr .tick (some 0xFF) none :: [rstOnly] :=
  ⟨latched idleLatch idleLatch 0 3 [Cycle.ofInstr .tick (some 0xFF) none, rstOnly], live_latched _ _ _ _ _, rfl, rfl⟩

theorem test_witness_CycleIsSerialised :
    ∃ s : State, s.Live ∧ s.cur.rst = false ∧ s.cur.command = .legal .compose ∧ s.cur.tick = true :=
  ⟨sampled 0 0 0 ⟨true, 1⟩ idleLatch 2 [ticked 0x3000 0], ⟨by decide, by decide, rfl⟩, rfl, by decide, rfl⟩

/-- Both latches, a READ and a tick in one cycle (2.5). -/
theorem test_witness_CycleIsSimultaneous :
    let s := latched ⟨true, 5⟩ ⟨true, 7⟩ 3 2 [{ ticked 0x2000 0xFE with rd := true }]
    s.Live ∧ ∃ t, sameCycle s = .next t ∧ t.latch0 = ⟨true, 16⟩ ∧ t.latch1 = ⟨true, 6⟩ ∧ t.shown = [0] :=
  ⟨live_latched _ _ _ _ _, _, next_got (by decide), by decide, by decide, by decide⟩

theorem test_witness_NoCommandIsNop : tickOnly.cmdValid = false ∧
    (latched ⟨true, 2⟩ idleLatch 0 2 [{ tickOnly with cmd := 0xFFFF }]).pending = { tickOnly with cmd := 0xFFFF } :: [] :=
  ⟨rfl, rfl⟩

theorem test_witness_QuietCycleHoldsState : State.reset.Live ∧ State.reset.pending = [] := ⟨⟨by decide, by decide, rfl⟩, rfl⟩

theorem test_witness_NopWritesNothing : 0 < (0x0FFF#16).toNat ∧ (0x0FFF#16).toNat < 0x1000 := by decide

theorem test_witness_SetctrlWritesBothBits : decode 0x4002#16 = .legal (.setctrl true false) := by decide

/-- The highest slot and channel, and where CONVERT stops: ADC off, and SLOT = 3. -/
theorem test_witness_ConvertCapturesSample :
    ∃ s : State, (2#2 : Slot).toNat = (2 : Fin 3).val ∧ s.adcEn = true ∧ s.cur.adc = some 0x3FF :=
  ⟨latched idleLatch idleLatch 0 1 [{ Cycle.idle with adc := some 0x3FF }], by decide, by decide, rfl⟩

theorem test_witness_ConvertStopsByName : (2#2 : Slot) ≠ 3#2 ∧ State.reset.adcEn = false ∧
    faultOf (exec (.convert 3 31) State.reset) = some (.illegalCommand 0x1C1F) := by decide

/-- The clauses: an edge on channel 0, none on channel 1; and a port input with a level above the port's 8 wires. -/
theorem test_witness_EdgeTriggersAndRecords :
    let s := latched idleLatch idleLatch 3 0 [word 0x2000 0xFE]
    s.pin.testBit (s.cfg.togglePin 0) ≠ s.snapBit 0 ∧ s.pin.testBit (s.cfg.togglePin 1) = s.snapBit 1 ∧
    s.cur.pin = some 0xFE ∧ (latched idleLatch idleLatch 3 0 [word 0x2000 0x1FE]).pin = 0xFE := by decide

/-- Applied and dropped, with counts 1 and 0. -/
theorem test_witness_TickCountsDown :
    (latched ⟨true, 1⟩ idleLatch 0 2 []).tickEn = true ∧ ((latched ⟨true, 1⟩ idleLatch 0 2 []).latch 0).cnt ≠ 0 ∧
    ((latched ⟨true, 1⟩ idleLatch 0 2 []).latch 1).cnt = 0 ∧ (latched ⟨true, 1⟩ idleLatch 0 1 []).tickEn = false := by
  decide

theorem test_witness_ComposeOverwritesReport :
    let s := sampled 0 1 2 idleLatch idleLatch 0 [word 0x3000 0xFB]
    (∀ k, s.smpw k = true) ∧ s.cur.pin = some 0xFB := by decide

theorem test_witness_ComposeStopsOnLowestUnwritten :
    State.smpw { State.reset with smpw0 := true, smpw1 := true } 2 = false ∧
    ∀ j, j < 2 → State.smpw { State.reset with smpw0 := true, smpw1 := true } j = true := by decide

theorem test_witness_RepeatedOperationChangesNothing :
    ∃ s t, exec .edge s = .next t ∧ t ≠ s :=
  ⟨latched idleLatch idleLatch 3 0 [word 0x2000 0xFE], _, rfl, by decide⟩

theorem test_witness_OnlyListedOperationsWrite : ∃ s t, exec (.convert 2 31) s = .next t ∧ t.chsel ≠ s.chsel :=
  ⟨latched idleLatch idleLatch 0 1 [], _, next_got (by decide), by decide⟩

theorem test_witness_AxisByteLaw :
    (3 : Sample) ≤ 4 ∧ (4 : Sample) < 1024 ∧ axis (4 * 255 + 3) = 255 := by decide

theorem test_witness_ButtonByteBits :
    0xFF < 2 ^ cfg3.pinBits ∧ 7 < cfg3.pinBits ∧ (buttons cfg3 0xFF false true).getLsbD 0 = true ∧
    (buttons cfg3 0x00 true true).getLsbD 7 = false := by decide

/-- A port of four wires: mask bits 4, 5 and 6 find no wire. -/
theorem test_witness_NarrowPortLeavesBitsClear :
    let c : Config := { cfg3 with pinBits := 4 }
    15 < 2 ^ c.pinBits ∧ c.pinBits ≤ 4 ∧ c.legal = true ∧ buttons c 0 false false = 0x0C := by decide

/-- A state whose latches are sound, for the invariants. -/
theorem test_witness_StepKeepsLatchesSound :
    ∃ s t : State, s.LatchesSound ∧ step s = .next t ∧ t.latch0.cnt = 16 ∧ t.latch1.cnt = 0 :=
  ⟨latched ⟨true, 16⟩ ⟨true, 1⟩ 3 2 [ticked 0x2000 0xFE], _,
    ⟨⟨by decide, by decide⟩, by decide, by decide⟩, next_got (by decide), by decide, by decide⟩

theorem test_witness_CountFitsItsWidth : ∃ s t : State, s.LatchesSound ∧ step s = .next t :=
  ⟨latched ⟨true, 16⟩ idleLatch 3 0 [word 0 0], _, ⟨⟨by decide, by decide⟩, by decide, by decide⟩, next_got (by decide)⟩

/-- A sample of 12 bits, and channel selects of 6 and of 4 bits. -/
theorem test_witness_StepKeepsWidths :
    let s : State := { latched idleLatch idleLatch 0 1 [{ word 0x181F 0 with adc := some 4095 }] with
      cfg := { cfg3 with adcBits := 12, chBits := 4 } }
    s.WidthsFit ∧ ∃ t, step s = .next t ∧ t.smp2 = 4095 ∧ t.chsel = 15 :=
  ⟨⟨by decide, by decide⟩, _, next_got (by decide), by decide, by decide⟩

theorem test_channel_widths :
    channelOf { cfg3 with chBits := 6 } 31 = 31 ∧ channelOf cfg3 31 = 31 ∧ channelOf { cfg3 with chBits := 4 } 31 = 15 := by
  decide

/-- Two states that differ in the other channel and in its pin. -/
theorem test_witness_ChannelsAreIndependent :
    let s := latched ⟨true, 3⟩ idleLatch 3 2 [ticked 0x2000 0xFF]
    let s' := latched ⟨true, 3⟩ ⟨true, 9⟩ 1 2 [ticked 0x2000 0x01]
    (nextState (step s)).isSome = true ∧ (nextState (step s')).isSome = true ∧ s.cfg = s'.cfg ∧
    s.latch 0 = s'.latch 0 ∧ s.snapBit 0 = s'.snapBit 0 ∧ s.latch 1 ≠ s'.latch 1 ∧
    s.pin.testBit (s.cfg.togglePin 0) = s'.pin.testBit (s'.cfg.togglePin 0) ∧ s.cur.rst = s'.cur.rst ∧
    s.commands .edge = s'.commands .edge ∧ s.cur.tick = s'.cur.tick ∧ s.tickEn = s'.tickEn := by decide

/-- A configuration with pulses of two ticks. -/
def short : Config := { cfg3 with pulseLength := 2 }

/-- The trigger of latch 0 in the cycle of a tick, and four cycles after it with a tick in every second one. -/
def pulsing : State :=
  { latched idleLatch idleLatch 3 2 [ticked 0x2000 0xFE, word 0 0, tickOnly, word 0 0, tickOnly] with cfg := short }

/-- The run reaches the second tick, which ends the pulse. -/
theorem test_witness_PulseLastsItsTicks :
    pulsing.triggers 0 = true ∧ ∃ s t u, step pulsing = .next s ∧ run 3 s = .next t ∧ run 4 s = .next u ∧
      NeverAlong (fun v => v.triggers 0) 4 s ∧ NeverAlong State.resets 4 s ∧ countAlong State.ticks 4 s = 2 ∧
      t.latch0 = ⟨true, 1⟩ ∧ u.latch0 = idleLatch :=
  ⟨by decide, _, _, _, next_got (by decide), next_got (by decide), next_got (by decide), by unfold NeverAlong; decide,
    by unfold NeverAlong; decide, by decide, by decide, by decide⟩

/-- Both clauses, the trigger being in the cycle of a tick: the pulse is 2 · 2 cycles. -/
theorem test_witness_PulseLengthInCycles :
    pulsing.cfg.tickPeriod = some 2 ∧ TicksEvery 2 1 5 pulsing.pending ∧ ∃ s t u, step pulsing = .next s ∧
      run 3 s = .next t ∧ run 4 s = .next u ∧ NeverAlong (fun v => !v.tickEn) 4 s ∧
      NeverAlong (fun v => v.triggers 0) 4 s ∧ NeverAlong State.resets 4 s ∧ TicksEvery 2 2 4 s.pending ∧
      (t.latch 0).act = true ∧ (u.latch 0).act = false :=
  ⟨by decide, by unfold TicksEvery; decide, _, _, _, next_got (by decide), next_got (by decide), next_got (by decide),
    by unfold NeverAlong; decide, by unfold NeverAlong; decide, by unfold NeverAlong; decide,
    by unfold TicksEvery; decide, by decide, by decide⟩

/-- The shortest pulse: the first tick comes in the cycle after the trigger's. -/
theorem test_witness_PulseLengthInCycles_next :
    let s0 : State := { pulsing with pending := [word 0x2000 0xFE, tickOnly, word 0 0, tickOnly] }
    s0.triggers 0 = true ∧ ∃ s t u, step s0 = .next s ∧ run 2 s = .next t ∧ run 3 s = .next u ∧
      TicksEvery 2 1 3 s.pending ∧ (t.latch 0).act = true ∧ (u.latch 0).act = false :=
  ⟨by decide, _, _, _, next_got (by decide), next_got (by decide), next_got (by decide), by unfold TicksEvery; decide,
    by decide, by decide⟩

/-- Ticks off and a tick that comes; and a trigger with ticks off. -/
theorem test_witness_PulseFreezesWithTicksOff :
    (∃ s t, run 1 s = .next t ∧ NeverAlong State.tickEn 1 s ∧ NeverAlong (fun u => u.triggers 0) 1 s ∧
      NeverAlong State.resets 1 s ∧ (s.latch 0).cnt = 5 ∧ s.cur.tick = true) ∧
    ∃ s t, State.triggers s 0 = true ∧ step s = .next t ∧ s.tickEn = false :=
  ⟨⟨latched ⟨true, 5⟩ idleLatch 3 1 [tickOnly], _, next_got (by decide), by unfold NeverAlong; decide,
      by unfold NeverAlong; decide, by unfold NeverAlong; decide, by decide, by decide⟩,
    latched idleLatch idleLatch 3 1 [word 0x2000 0xFE], _, by decide, next_got (by decide), by decide⟩

/-- One cycle after reset, then the EDGE; latch 0 is triggered and latch 1 is not (SNAP_INIT = 0b11). -/
theorem test_witness_FirstEdgeComparesWithSnapInit :
    let s1 : State := { State.resetWith cfg3 with pending := [word 0x4003 0xFF, word 0x2000 0xFE] }
    ∃ s t, run 1 s1 = .next s ∧ NeverAlong (fun u => u.commands .edge) 1 s1 ∧ s.commands .edge = true ∧
      step s = .next t ∧ s.triggers 0 = true ∧ s.triggers 1 = false :=
  ⟨_, _, next_got (by decide), by unfold NeverAlong; decide, by decide, next_got (by decide), by decide, by decide⟩

/-- The same after a reset cycle in a run that had EDGEs before it: both latches are pulsing and SNAP is 0b00. -/
theorem test_witness_FirstEdgeComparesWithSnapInit_midRun :
    let s0 := latched ⟨true, 9⟩ ⟨true, 9⟩ 0 3 [rstOnly, word 0x4003 0xFF, word 0x2000 0xFE]
    s0.resets = true ∧ ∃ s1 s t, step s0 = .next s1 ∧ run 1 s1 = .next s ∧
      NeverAlong (fun u => u.commands .edge) 1 s1 ∧ s.commands .edge = true ∧ step s = .next t ∧
      t.latch0 = ⟨true, 16⟩ ∧ t.latch1 = idleLatch :=
  ⟨by decide, _, _, _, next_got (by decide), next_got (by decide), by unfold NeverAlong; decide, by decide,
    next_got (by decide), by decide, by decide⟩

/-- Two EDGEs with a cycle between them: pin 0 changes, pin 1 does not. -/
theorem test_witness_EdgeComparesSampledLevels :
    let s0 := latched idleLatch idleLatch 3 0 [word 0x2000 0xFE, word 0 0x00, word 0x2000 0xFF]
    s0.commands .edge = true ∧ ∃ s u, step s0 = .next s ∧ run 1 s = .next u ∧
      NeverAlong (fun v => v.commands .edge) 1 s ∧ NeverAlong State.resets 1 s ∧ u.commands .edge = true ∧
      u.triggers 0 = true ∧ u.triggers 1 = false :=
  ⟨by decide, _, _, next_got (by decide), next_got (by decide), by unfold NeverAlong; decide,
    by unfold NeverAlong; decide, by decide, by decide, by decide⟩

/-- A COMPOSE, then a cycle with a READ. -/
theorem test_witness_ReportIsTheLatestCompose :
    let s0 := sampled 4 8 12 idleLatch idleLatch 0 [word 0x3000 0xFF, { Cycle.idle with rd := true }]
    s0.commands .compose = true ∧ ∃ s u, step s0 = .next s ∧ run 1 s = .next u ∧
      NeverAlong (fun v => v.commands .compose) 1 s ∧ NeverAlong State.resets 1 s ∧ u.shown = [0x00030201] :=
  ⟨by decide, _, _, next_got (by decide), next_got (by decide), by unfold NeverAlong; decide,
    by unfold NeverAlong; decide, by decide⟩

theorem test_witness_ReadsAreStable :
    let s : State := { State.reset with report2 := 7, pending := [{ Cycle.idle with rd := true }, tickOnly] }
    ∃ t, run 2 s = .next t ∧ NeverAlong (fun u => u.commands .compose) 2 s ∧ NeverAlong State.resets 2 s ∧
      countAlong (fun u => u.cur.rd) 2 s = 1 :=
  ⟨_, next_got (by decide), by unfold NeverAlong; decide, by unfold NeverAlong; decide, by decide⟩

/-- A cycle that converts into slot 2, the highest. -/
theorem test_witness_SlotsStayWritten :
    let s := latched idleLatch idleLatch 0 1 [word 0x1800 0]
    ∃ t, run 1 s = .next t ∧ NeverAlong State.resets 1 s ∧ countAlong (fun u => u.convertsTo 2) 1 s = 1 :=
  ⟨_, next_got (by decide), by unfold NeverAlong; decide, by decide⟩

theorem test_witness_StepKeepsConfiguration : ∃ s t, step s = .next t ∧ s.cfg = cfg3 :=
  ⟨latched idleLatch idleLatch 0 0 [rstOnly], _, next_got (by decide), rfl⟩

theorem test_witness_IllegalConfigurationIsRefused :
    (State.resetWith { cfg3 with pulseLength := 0 }).cfg.legal = false := by decide

theorem test_witness_UnlaidSizesAreRefused :
    Config.legal { cfg3 with nToggle := 3 } = true ∧ Config.legal { cfg3 with nSlot := 2 } = true ∧
    Config.laidOut { cfg3 with pulseLength := 1, adcBits := 12 } = true := by decide

/-- Each of the three faults, and a marked state with a cycle of `rst`. -/
theorem test_witness_FaultsAreTheThree :
    faultOf (step (latched idleLatch idleLatch 0 0 [word 0x0FFF 0])) = some (.illegalCommand 0x0FFF) ∧
    faultOf (step (latched idleLatch idleLatch 0 0 [word 0x1405 0])) = some (.adcDisabled 1 5) ∧
    faultOf (step (latched idleLatch idleLatch 0 0 [word 0x3000 0])) = some (.unwrittenSample 0) := by decide

theorem test_witness_FaultEndsTheRun :
    step { State.reset with pending := word 0x3000 0 :: [] } = .fault (.unwrittenSample 0) ∧
    State.reset.cfg.legal = true ∧ State.reset.cfg.laidOut = true ∧
    (State.reset.stop (.unwrittenSample 0)).mark = some (.unwrittenSample 0) :=
  ⟨rfl, by decide, by decide, rfl⟩

theorem test_witness_RunForgetsTheStateBeforeReset :
    startsWithReset [rstOnly, word 0 0] = true ∧ rstOnly.rd = false ∧
    (latched ⟨true, 5⟩ ⟨true, 0⟩ 0 3 []).Live ∧ (sampled 1 2 3 idleLatch idleLatch 0 []).Live ∧
    (latched ⟨true, 5⟩ ⟨true, 0⟩ 0 3 []).cfg = (sampled 1 2 3 idleLatch idleLatch 0 []).cfg :=
  ⟨rfl, rfl, live_latched _ _ _ _ _, ⟨by decide, by decide, rfl⟩, rfl⟩

theorem test_witness_LiveCycleCompletesOrFaults : State.reset.Live := ⟨by decide, by decide, rfl⟩

/-- Both clauses: a CONVERT in the cycle, and none. -/
theorem test_witness_AdcChannelOutput :
    (latched idleLatch idleLatch 0 1 [word 0x141F 0]).commands (.convert 1 31) = true ∧
    ∀ slot ch, (latched idleLatch idleLatch 0 1 [word 0x2000 0]).commands (.convert slot ch) = false := by
  refine ⟨by decide, fun slot ch => ?_⟩
  revert slot ch
  decide

theorem test_witness_PseudoInstructionsExpand : 31 < 32 ∧ (Asm.iter 0 1 31).expand.isSome = true := by decide

end Sys2Proof.Tests
end

section
/-! SUPPORT. The legal configurations as the conditions of 00_scope.md R7, and the step under any other (R133). -/

namespace Sys2Proof

/-- R7's conditions as propositions; the two field widths are written as the numbers they are. -/
theorem Config.legal_iff (c : Config) : c.legal = true ↔
    1 ≤ c.pulseLength ∧ c.pulseLength ≤ 2 ^ c.cntWidth - 1 ∧ c.togglePin0 ≠ c.togglePin1 ∧
    c.togglePin0 < c.pinBits ∧ c.togglePin1 < c.pinBits ∧ c.buttonMask < 256 ∧ c.snapInit < 4 := by
  simp only [Config.legal, Bool.and_eq_true, decide_eq_true_eq, and_assoc, Nat.reducePow]

namespace Machine

/-- The legality test is the first of the clock edge: it precedes the layout, the fault mark and the inputs. -/
theorem step_of_illegal {s : State} (h : s.cfg.legal = false) : step s = .refused .illegalConfig := by
  unfold step clockEdge
  rw [h]
  rfl

/-- Settles O43: R7's conditions are `Config.legal_iff`, R133's refusal is `step_of_illegal`. -/
theorem illegalConfigurationIsRefused : Obligations.IllegalConfigurationIsRefused :=
  ⟨Config.legal_iff, fun _ => step_of_illegal⟩

end Machine

end Sys2Proof
end

section
/-! SUPPORT. What a command port can carry: a legal word decodes to a command of R61 with a slot of R63, never to a
strobe (R67). -/

namespace Sys2Proof

theorem decodeBare_legal {w : CmdWord} {i j : Instr} (h : decodeBare w j = .legal i) : j = i := by
  unfold decodeBare at h
  split_ifs at h
  exact Decoded.legal.inj h

theorem decodeSetctrl_legal {w : CmdWord} {i : Instr} (h : decodeSetctrl w = .legal i) :
    .setctrl (teBit w) (aeBit w) = i := by
  unfold decodeSetctrl at h
  split_ifs at h
  exact Decoded.legal.inj h

/-- A word of OP = 0x1 is a CONVERT, and its slot is not 3 (R65 b). -/
theorem decodeConvert_legal {w : CmdWord} {i : Instr} (h : decodeConvert w = .legal i) :
    slotField w ≠ 3#2 ∧ i = .convert (slotField w) (chField w) := by
  unfold decodeConvert at h
  split_ifs at h with hslot
  exact ⟨hslot, (Decoded.legal.inj h).symm⟩

/-- A word is decoded as a well-formed command: no strobe, and no CONVERT with SLOT = 3 (R65 b, R67). -/
theorem wellFormed_of_decode {w : CmdWord} {i : Instr} (h : decode w = .legal i) :
    i.WellFormed ∧ i.isStrobe = false := by
  unfold decode at h
  split_ifs at h
  · exact decodeBare_legal h ▸ ⟨rfl, rfl⟩
  · obtain ⟨hslot, rfl⟩ := decodeConvert_legal h
    exact ⟨bne_iff_ne.mpr hslot, rfl⟩
  · exact decodeBare_legal h ▸ ⟨rfl, rfl⟩
  · exact decodeBare_legal h ▸ ⟨rfl, rfl⟩
  · exact decodeSetctrl_legal h ▸ ⟨rfl, rfl⟩

namespace Machine

/-- A cycle without a command word has a NOP on its port, so its command is well-formed as well (R66). -/
theorem Cycle.wellFormed_of_command {c : Cycle} {i : Instr} (h : c.command = .legal i) :
    i.WellFormed ∧ i.isStrobe = false := by
  unfold Cycle.command at h
  split at h
  · exact wellFormed_of_decode h
  · cases h
    exact ⟨rfl, rfl⟩

/-- A SLOT field other than 3 names the slot of its value (R63). -/
theorem slotIndex_of_ne_three {slot : Slot} (h : slot ≠ 3#2) : ∃ k, slotIndex slot = some k ∧ slot.toNat = k.val := by
  revert slot
  decide

end Machine

end Sys2Proof
end

section
/-! SUPPORT. The serialised cycle of 20_memory.md R48: the operations of a cycle as four steps in a row. -/

namespace Sys2Proof.Machine

theorem andThen_assoc (r : Result) (f g : State → Result) :
    andThen (andThen r f) g = andThen r fun s => andThen (f s) g := by
  cases r <;> rfl

/-- An operation that happens only when `p` holds. -/
theorem execAll_ite (p : Prop) [Decidable p] (i : Instr) (s : State) :
    execAll (if p then [i] else []) s = if p then exec i s else .next s := by
  split
  · exact execAll_single i s
  · rfl

/-- A cycle without `rst` that has a legal command runs the list of R48. -/
theorem runCycle_legal {s : State} {i : Instr} (hr : s.cur.rst = false) (hc : s.cur.command = .legal i) :
    runCycle s = andThen (execAll (s.cur.serial i) s) fun t => .next t.endCycle := by
  unfold runCycle Cycle.operations
  simp only [hr, hc, Bool.false_eq_true, if_false]

/-- A cycle without `rst` that has an illegal word ends with its fault (R65). -/
theorem runCycle_illegal {s : State} {why : IllegalWord} (hr : s.cur.rst = false)
    (hc : s.cur.command = .illegal why) : runCycle s = .fault (.illegalCommand s.cur.cmd) := by
  unfold runCycle Cycle.operations
  simp only [hr, hc, Bool.false_eq_true, if_false, raise_eq]

/-- Settles O11: the list of R48 run piece by piece, with the brackets of `andThen` moved to the right. -/
theorem cycleIsSerialised : Obligations.CycleIsSerialised := by
  intro s i hl hr hc
  have hlast : ∀ t, execAll (if i = .compose then [] else [i]) t = if i = .compose then .next t else exec i t := by
    intro t
    rw [← ite_not, execAll_ite, ite_not]
  rw [step_of_live hl, runCycle_legal hr hc]
  simp only [Cycle.serial, execAll_append, execAll_ite, hlast, andThen_assoc]

end Sys2Proof.Machine
end

section
/-! SUPPORT. The simultaneous cycle of 20_memory.md R47: the next state it computes from the pre-cycle registers is the
one the command leaves after the strobes (`afterStrobes`), case by case. -/

namespace Sys2Proof.Machine

/-! ### The simultaneous resolution by its cases -/

theorem sameCycle_reset {s : State} (hr : s.cur.rst = true) : sameCycle s = .next (resolvedReset s) := by
  unfold sameCycle
  rw [if_pos hr]

theorem sameCycle_illegal {s : State} {why : IllegalWord} (hr : s.cur.rst = false)
    (hc : s.cur.command = .illegal why) : sameCycle s = .fault (.illegalCommand s.cur.cmd) := by
  unfold sameCycle
  simp only [hr, hc, Bool.false_eq_true, if_false]

theorem sameCycle_fault {s : State} {i : Instr} {f : Fault} (hr : s.cur.rst = false) (hc : s.cur.command = .legal i)
    (hf : commandFault s i = some f) : sameCycle s = .fault f := by
  unfold sameCycle
  simp only [hr, hc, hf, Bool.false_eq_true, if_false]

theorem sameCycle_legal {s : State} {i : Instr} (hr : s.cur.rst = false) (hc : s.cur.command = .legal i)
    (hf : commandFault s i = none) : sameCycle s = .next (resolvedState s i) := by
  unfold sameCycle
  simp only [hr, hc, hf, Bool.false_eq_true, if_false]

section
variable (s : State)

/-! ### The latches: a trigger wins over the tick -/

/-- The tick of a cycle counts a latch down when TICK_EN is 1 (R93). -/
theorem afterStrobes_latch (j : Fin 2) : (afterStrobes s).latch j =
    if s.cur.tick && s.tickEn then (s.latch j).countdown else s.latch j := by
  fin_cases j <;> rfl

/-- The edge function of R91 compares the pin with SNAP. -/
theorem edgeSeen_iff (j : Fin 2) : s.edgeSeen j = true ↔ s.pin.testBit (s.cfg.togglePin j) ≠ s.snapBit j :=
  bne_iff_ne

/-- EDGE triggers the latches whose pin changed, whatever the tick did to them; every other latch is the tick's. -/
theorem resolvedLatch_eq (i : Instr) (j : Fin 2) : resolvedLatch s i j =
    if i = .edge ∧ s.edgeSeen j = true then Latch.trigger s.cfg else (afterStrobes s).latch j := by
  simp only [afterStrobes_latch, edgeSeen_iff]
  unfold resolvedLatch Latch.trigger Latch.countdown
  congr 1
  by_cases ht : s.cur.tick = true ∧ s.tickEn = true
  · simp only [ht, true_and, ne_eq, ite_not, Bool.and_self, if_true]
  · rw [if_neg fun ⟨htick, hen, _⟩ => ht ⟨htick, hen⟩, if_neg (by rwa [Bool.and_eq_true])]

theorem resolvedLatch_of_ne_edge {i : Instr} (hi : i ≠ .edge) (j : Fin 2) :
    resolvedLatch s i j = (afterStrobes s).latch j := by
  rw [resolvedLatch_eq, if_neg fun h => hi h.1]

theorem resolvedLatch_edge (j : Fin 2) : resolvedLatch s .edge j =
    if s.edgeSeen j then Latch.trigger s.cfg else (afterStrobes s).latch j := by
  simp only [resolvedLatch_eq, true_and]

/-! ### The next state of each command -/

/-- After any command but EDGE the latches are those the tick leaves. -/
theorem resolvedState_of_ne_edge {i : Instr} (hi : i ≠ .edge) : resolvedState s i =
    { resolvedState s i with latch0 := (afterStrobes s).latch0, latch1 := (afterStrobes s).latch1 } := by
  ext1
  case latch0 => exact resolvedLatch_of_ne_edge s hi 0
  case latch1 => exact resolvedLatch_of_ne_edge s hi 1
  all_goals rfl

theorem resolvedState_nop : resolvedState s .nop = (afterStrobes s).endCycle :=
  resolvedState_of_ne_edge s nofun

theorem resolvedState_setctrl (te ae : Bool) :
    resolvedState s (.setctrl te ae) = ((afterStrobes s).setCtrl te ae).endCycle :=
  resolvedState_of_ne_edge s nofun

theorem resolvedState_compose :
    resolvedState s .compose = ((afterStrobes s).setReport s.composed).endCycle :=
  resolvedState_of_ne_edge s nofun

theorem resolvedState_edge : resolvedState s .edge =
    (((afterStrobes s).setLatches fun j =>
      if s.edgeSeen j then Latch.trigger s.cfg else (afterStrobes s).latch j).setSnap (snapOf s.cfg s.pin)).endCycle := by
  unfold resolvedState
  rw [resolvedLatch_edge, resolvedLatch_edge]
  rfl

theorem resolvedState_convert {slot : Slot} {k : Fin 3} (hk : slot.toNat = k.val) (ch : Chan) :
    resolvedState s (.convert slot ch) = (((afterStrobes s).setChsel (channelOf s.cfg ch)).setSample k
      (s.adcSample (channelOf s.cfg ch))).endCycle := by
  rw [resolvedState_of_ne_edge s (by simp)]
  simp only [resolvedState, resolvedSmp, resolvedSmpw, hk]
  fin_cases k <;> rfl

/-- CONVERT of a slot: the fault of R80, or the capture. -/
theorem exec_convert {slot : Slot} {k : Fin 3} (hk : slotIndex slot = some k) (ch : Chan) :
    exec (.convert slot ch) s =
      if s.adcEn then capture k (channelOf s.cfg ch) s else .fault (.adcDisabled slot ch) := by
  simp only [exec, execConvert, hk, raise_eq]

end

/-! ### The two cycles agree -/

/-- COMPOSE: both cycles fault on an unwritten slot, and both compose from the latches before the tick. -/
theorem runCycle_eq_sameCycle_compose {s : State} (hr : s.cur.rst = false) (hc : s.cur.command = .legal .compose) :
    runCycle s = sameCycle s := by
  rw [runCycle_compose hr hc]
  unfold execCompose
  cases hf : s.firstUnwritten with
  | none => rw [sameCycle_legal hr hc (congrArg (Option.map _) hf), resolvedState_compose, andThen_next]
  | some k => rw [sameCycle_fault hr hc (congrArg (Option.map _) hf), andThen_raise]

/-- CONVERT: both cycles fault with the ADC off, and both capture in the same slot. -/
theorem runCycle_eq_sameCycle_convert {s : State} {slot : Slot} {ch : Chan} (hr : s.cur.rst = false)
    (hc : s.cur.command = .legal (.convert slot ch)) (hslot : slot ≠ 3#2) : runCycle s = sameCycle s := by
  obtain ⟨k, hk, hval⟩ := slotIndex_of_ne_three hslot
  have hen : (afterStrobes s).adcEn = s.adcEn := rfl
  rw [runCycle_command hr hc nofun, exec_convert _ hk, hen]
  cases hae : s.adcEn with
  | false => rw [sameCycle_fault hr hc (if_pos hae)]; rfl
  | true => rw [sameCycle_legal hr hc (if_neg (by simp [hae])), resolvedState_convert s hval]; rfl

/-- A cycle without `rst` and with a legal command, by the commands of R62. -/
theorem runCycle_eq_sameCycle_of_legal {s : State} {i : Instr} (hr : s.cur.rst = false)
    (hc : s.cur.command = .legal i) : runCycle s = sameCycle s := by
  obtain ⟨hwf, hstrobe⟩ := Cycle.wellFormed_of_command hc
  cases i with
  | nop => rw [runCycle_command hr hc nofun, sameCycle_legal hr hc rfl, resolvedState_nop]; rfl
  | convert slot ch => exact runCycle_eq_sameCycle_convert hr hc (bne_iff_ne.mp hwf)
  | edge => rw [runCycle_command hr hc nofun, sameCycle_legal hr hc rfl, resolvedState_edge]; rfl
  | compose => exact runCycle_eq_sameCycle_compose hr hc
  | setctrl te ae => rw [runCycle_command hr hc nofun, sameCycle_legal hr hc rfl, resolvedState_setctrl]; rfl
  | tick => cases hstrobe
  | read => cases hstrobe
  | reset => cases hstrobe

/-- The serialised cycle is the simultaneous one in every state: `rst` first, then the command (R135). -/
theorem runCycle_eq_sameCycle (s : State) : runCycle s = sameCycle s := by
  cases hr : s.cur.rst with
  | true => rw [runCycle_reset hr, sameCycle_reset hr]; rfl
  | false =>
    cases hc : s.cur.command with
    | legal i => exact runCycle_eq_sameCycle_of_legal hr hc
    | illegal why => rw [runCycle_illegal hr hc, sameCycle_illegal hr hc]

/-- Settles O12: a live step is one cycle, and the serialised cycle is the simultaneous one. -/
theorem cycleIsSimultaneous : Obligations.CycleIsSimultaneous := fun s hl =>
  (step_of_live hl).trans (runCycle_eq_sameCycle s)

end Sys2Proof.Machine
end

section
/-! SUPPORT. The illegal words of 30_encoding.md R65: each field of a command word as a number, and when each part of the
decoder rejects. -/

namespace Sys2Proof

section
variable (w : CmdWord)

/-! ### The fields of R61 as numbers -/

theorem opField_eq_iff (v : BitVec 4) : opField w = v ↔ w.toNat / 4096 = v.toNat := by
  simp only [← BitVec.toNat_inj, opField, BitVec.extractLsb'_toNat, Nat.shiftRight_eq_div_pow]
  omega

theorem slotField_eq_iff (v : Slot) : slotField w = v ↔ w.toNat / 1024 % 4 = v.toNat := by
  simp only [← BitVec.toNat_inj, slotField, BitVec.extractLsb'_toNat, Nat.shiftRight_eq_div_pow, Nat.reducePow]

theorem reservedField_eq_iff (v : BitVec 5) : reservedField w = v ↔ w.toNat / 32 % 32 = v.toNat := by
  simp only [← BitVec.toNat_inj, reservedField, BitVec.extractLsb'_toNat, Nat.shiftRight_eq_div_pow, Nat.reducePow]

theorem lowField_eq_iff (v : BitVec 12) : lowField w = v ↔ w.toNat % 4096 = v.toNat := by
  simp only [← BitVec.toNat_inj, lowField, BitVec.extractLsb'_toNat, Nat.shiftRight_zero, Nat.reducePow]

theorem ctrlReservedField_eq_iff (v : BitVec 10) : ctrlReservedField w = v ↔ w.toNat / 4 % 1024 = v.toNat := by
  simp only [← BitVec.toNat_inj, ctrlReservedField, BitVec.extractLsb'_toNat, Nat.shiftRight_eq_div_pow, Nat.reducePow]

/-! ### When each part of the decoder rejects -/

/-- R65 (d). -/
theorem decodeBare_instr?_eq_none_iff (i : Instr) : (decodeBare w i).instr? = none ↔ w.toNat % 4096 ≠ 0 := by
  unfold decodeBare
  split_ifs with hlow <;> simpa [Decoded.instr?, lowField_eq_iff] using hlow

/-- R65 (b) and (c). -/
theorem decodeConvert_instr?_eq_none_iff :
    (decodeConvert w).instr? = none ↔ w.toNat / 1024 % 4 = 3 ∨ w.toNat / 32 % 32 ≠ 0 := by
  unfold decodeConvert
  split_ifs with hslot hres <;> rw [slotField_eq_iff] at hslot
  · exact iff_of_true rfl (.inl hslot)
  · exact iff_of_false nofun (not_or.mpr ⟨hslot, not_not.mpr ((reservedField_eq_iff w _).mp hres)⟩)
  · exact iff_of_true rfl (.inr (mt (reservedField_eq_iff w 0#5).mpr hres))

/-- R65 (e). -/
theorem decodeSetctrl_instr?_eq_none_iff : (decodeSetctrl w).instr? = none ↔ w.toNat / 4 % 1024 ≠ 0 := by
  unfold decodeSetctrl
  split_ifs with hres <;> simpa [Decoded.instr?, ctrlReservedField_eq_iff] using hres

/-- The five clauses of R65, by the values of OP as R69 tries them. -/
theorem decode_instr?_eq_none_iff : (decode w).instr? = none ↔
    (5 ≤ w.toNat / 4096) ∨
    (w.toNat / 4096 = 1 ∧ w.toNat / 1024 % 4 = 3) ∨
    (w.toNat / 4096 = 1 ∧ w.toNat / 32 % 32 ≠ 0) ∨
    ((w.toNat / 4096 = 0 ∨ w.toNat / 4096 = 2 ∨ w.toNat / 4096 = 3) ∧ w.toNat % 4096 ≠ 0) ∨
    (w.toNat / 4096 = 4 ∧ w.toNat / 4 % 1024 ≠ 0) := by
  unfold decode
  simp only [opField_eq_iff, BitVec.toNat_ofNat, Nat.reducePow, Nat.reduceMod]
  split_ifs with hnop hconvert hedge hcompose hsetctrl
  · rw [decodeBare_instr?_eq_none_iff]; omega
  · rw [decodeConvert_instr?_eq_none_iff]; omega
  · rw [decodeBare_instr?_eq_none_iff]; omega
  · rw [decodeBare_instr?_eq_none_iff]; omega
  · rw [decodeSetctrl_instr?_eq_none_iff]; omega
  · exact iff_of_true rfl (.inl (by omega))

end

/-- A decoded word without an instruction is one rejected by name. -/
theorem Decoded.exists_illegal {d : Decoded} (h : d.instr? = none) : ∃ why, d = .illegal why := by
  cases d with
  | legal i => cases h
  | illegal why => exact ⟨why, rfl⟩

namespace Machine

/-- What a valid cycle has on its command port is its decoded word (R69). -/
theorem Cycle.command_of_valid {c : Cycle} (h : c.cmdValid = true) : c.command = decode c.cmd :=
  if_pos h

/-- Settles O8: the clauses are `decode_instr?_eq_none_iff`, and a cycle with an illegal word is `runCycle_illegal`. -/
theorem illegalWordsAreTheListed : Obligations.IllegalWordsAreTheListed := by
  refine ⟨decode_instr?_eq_none_iff, fun s hl hr hv hnone => ?_⟩
  obtain ⟨why, hwhy⟩ := Decoded.exists_illegal hnone
  rw [step_of_live hl, runCycle_illegal hr ((Cycle.command_of_valid hv).trans hwhy)]

end Machine

end Sys2Proof
end

section
/-! SUPPORT. A cycle without a command (30_encoding.md R66): its command port has a NOP on it, and what such a cycle does
does not depend on the bits of `cmd`. -/

namespace Sys2Proof.Machine

theorem Cycle.command_of_not_valid {c : Cycle} (h : c.cmdValid = false) : c.command = .legal .nop :=
  if_neg (by simp [h])

/-- The NOP word (R61). -/
theorem decode_zero : decode 0x0000#16 = .legal .nop := by decide

/-- The first listed cycle is the current one. -/
theorem State.cur_of_pending {s : State} {c : Cycle} {rest : List Cycle} (h : s.pending = c :: rest) : s.cur = c := by
  unfold State.cur
  rw [h, List.headD_cons]

/-- A cycle without `rst` that has a NOP on its command port is its strobes and nothing else. -/
theorem runCycle_nop {s : State} (hr : s.cur.rst = false) (hc : s.cur.command = .legal .nop) :
    runCycle s = .next (afterStrobes s).endCycle := by
  rw [runCycle_command hr hc nofun, exec_nop, andThen_next]

/-- Before the inputs of a cycle are looked at, a step tests the configuration and the fault mark alone. -/
theorem step_eq_of_runCycle_eq {s t : State} (hcfg : s.cfg = t.cfg) (hmark : s.mark = t.mark)
    (hrun : runCycle s = runCycle t) : step s = step t := by
  unfold step clockEdge
  rw [hcfg, hmark, hrun]

/-- Settles O13: under `rst` both cycles are the reset, and without it both are their strobes, which are the same. -/
theorem noCommandIsNop : Obligations.NoCommandIsNop := by
  intro s c rest hp hv
  set t : State := { s with pending := { c with cmdValid := true, cmd := 0x0000#16 } :: rest }
  have hcur : s.cur = c := State.cur_of_pending hp
  have hnop : s.cur.command = .legal .nop := hcur ▸ Cycle.command_of_not_valid hv
  have hnopWord : t.cur.command = .legal .nop := (Cycle.command_of_valid rfl).trans decode_zero
  refine step_eq_of_runCycle_eq rfl rfl ?_
  obtain hr | hr := c.rst.eq_false_or_eq_true
  · rw [runCycle_reset (hcur ▸ hr), runCycle_reset (s := t) hr, hcur, hp]
    rfl
  · rw [runCycle_nop (hcur ▸ hr) hnop, runCycle_nop (s := t) hr hnopWord]
    unfold afterStrobes State.endCycle
    rw [hcur, hp]
    rfl

end Sys2Proof.Machine
end

section
/-! SUPPORT. SETCTRL (30_encoding.md R64): only a word of OP = 0x4 is one, and its operands are the word's two low bits. -/

namespace Sys2Proof

theorem decodeSetctrl_of_decode {w : CmdWord} {te ae : Bool} (h : decode w = .legal (.setctrl te ae)) :
    decodeSetctrl w = .legal (.setctrl te ae) := by
  unfold decode at h
  split_ifs at h
  · cases decodeBare_legal h
  · cases (decodeConvert_legal h).2
  · cases decodeBare_legal h
  · cases decodeBare_legal h
  · exact h

namespace Machine

/-- Settles O16: the operands are those `decodeSetctrl` reads, and `setCtrl` writes CTRL alone. -/
theorem setctrlWritesBothBits : Obligations.SetctrlWritesBothBits := by
  refine ⟨fun w te ae h => ?_, fun te ae s => ?_⟩
  · cases decodeSetctrl_legal (decodeSetctrl_of_decode h)
    exact ⟨rfl, rfl⟩
  · exact ⟨s.setCtrl te ae, exec_setctrl te ae s, s.setCtrl_adcEn te ae, s.setCtrl_tickEn te ae, rfl⟩

end Machine

end Sys2Proof
end

section
/-! SUPPORT. What a statement of the listing expands to when its operands are in range (30_encoding.md R70, R71). -/

namespace Sys2Proof.Machine

theorem Asm.expand_convert {slot ch : Nat} (hslot : slot < 3) (hch : ch < 32) :
    (Asm.convert slot ch).expand = some [convertOf slot ch] :=
  if_pos ⟨hslot, hch⟩

theorem Asm.expand_setctrl {imm2 : Nat} (h : imm2 < 4) : (Asm.setctrl imm2).expand = some [setctrlOf imm2] :=
  if_pos h

theorem Asm.expand_iter {c0 c1 c2 : Nat} (h0 : c0 < 32) (h1 : c1 < 32) (h2 : c2 < 32) :
    (Asm.iter c0 c1 c2).expand = some [convertOf 0 c0, convertOf 1 c1, convertOf 2 c2, .edge, .compose] :=
  if_pos ⟨h0, h1, h2⟩

/-- Settles O51: the three settings are SETCTRLs in range, and ITER is its CONVERTs with EDGE and COMPOSE after them. -/
theorem pseudoInstructionsExpand : Obligations.PseudoInstructionsExpand :=
  ⟨(Asm.expand_setctrl (by decide)).symm, (Asm.expand_setctrl (by decide)).symm,
    (Asm.expand_setctrl (by decide)).symm, fun _ _ _ h0 h1 h2 =>
      ⟨Asm.expand_iter h0 h1 h2, Asm.expand_convert (by decide) h0, Asm.expand_convert (by decide) h1,
        Asm.expand_convert (by decide) h2⟩⟩

end Sys2Proof.Machine
end

section
/-! SUPPORT. One channel of the debouncer over one cycle: the next {ACT[i], CNT[i]} and SNAP[i] of 20_memory.md R47 in
the terms the claims are stated in (`resets`, `triggers`, `ticks`). -/

namespace Sys2Proof.Machine

/-- Everything a step can answer as a next state: the reset of R150, or the resolution of R47 for a legal command. -/
theorem step_next_resolved {s t : State} (h : step s = .next t) :
    (s.cur.rst = true ∧ t = resolvedReset s) ∨
    ∃ i, s.cur.rst = false ∧ s.cur.command = .legal i ∧ t = resolvedState s i := by
  rw [cycleIsSimultaneous s (step_next h).1] at h
  cases hr : s.cur.rst with
  | true =>
    rw [sameCycle_reset hr] at h
    exact .inl ⟨rfl, (Host.Outcome.next.inj h).symm⟩
  | false =>
    cases hc : s.cur.command with
    | illegal why => rw [sameCycle_illegal hr hc] at h; cases h
    | legal i =>
      cases hf : commandFault s i with
      | some f => rw [sameCycle_fault hr hc hf] at h; cases h
      | none =>
        rw [sameCycle_legal hr hc hf] at h
        exact .inr ⟨i, rfl, rfl, (Host.Outcome.next.inj h).symm⟩

theorem step_cfg {s t : State} (h : step s = .next t) : t.cfg = s.cfg := by
  obtain ⟨-, rfl⟩ | ⟨i, -, -, rfl⟩ := step_next_resolved h <;> rfl

/-- SNAP_INIT as a number and as the register it is loaded into have the same bits (R24). -/
theorem snapInit_bit (c : Config) (j : Fin 2) :
    (BitVec.ofNat 2 c.snapInit).getLsbD j.val = c.snapInit.testBit j.val := by
  rw [BitVec.getLsbD_ofNat, decide_eq_true j.isLt, Bool.true_and]

section
variable (s : State)

theorem resolvedReset_latch (j : Fin 2) : (resolvedReset s).latch j = { act := false, cnt := 0 } := by
  fin_cases j <;> rfl

theorem resolvedReset_snapBit (j : Fin 2) : (resolvedReset s).snapBit j = s.cfg.snapInit.testBit j.val :=
  snapInit_bit s.cfg j

theorem resolvedState_latch (i : Instr) (j : Fin 2) : (resolvedState s i).latch j = resolvedLatch s i j := by
  fin_cases j <;> rfl

theorem resolvedState_snapBit_edge (j : Fin 2) : (resolvedState s .edge).snapBit j = toggleLevel s.cfg s.pin j :=
  snapOf_bit s.cfg s.pin j

theorem resolvedState_snapBit_of_ne_edge {i : Instr} (hi : i ≠ .edge) (j : Fin 2) :
    (resolvedState s i).snapBit j = s.snapBit j := by
  cases i with
  | edge => exact absurd rfl hi
  | _ => rfl

end

/-- Under `rst` the command is ignored, so no EDGE triggers (R150). -/
theorem resets_eq_false_of_triggers {s : State} {j : Fin 2} (ht : s.triggers j = true) : s.resets = false := by
  simp only [State.triggers, State.commands, Bool.and_eq_true, Bool.not_eq_true'] at ht
  obtain ⟨⟨hr, -⟩, -⟩ := ht
  exact hr

section
variable {s t : State} (h : step s = .next t)
include h

/-- R47 for a latch: a reset, else a trigger, else an applied tick, else nothing. -/
theorem step_latch (j : Fin 2) : t.latch j =
    if s.resets then { act := false, cnt := 0 }
    else if s.triggers j then Latch.trigger s.cfg
    else if s.ticks then (s.latch j).countdown
    else s.latch j := by
  obtain ⟨hr, rfl⟩ | ⟨i, hr, hc, rfl⟩ := step_next_resolved h
  · rw [resolvedReset_latch, State.resets, if_pos hr]
  · rw [resolvedState_latch, resolvedLatch_eq, afterStrobes_latch]
    simp [State.resets, State.triggers, State.commands, State.ticks, hr, hc]

/-- R47 for a SNAP bit: SNAP_INIT at a reset, the pin at an EDGE. -/
theorem step_snapBit (j : Fin 2) : t.snapBit j =
    if s.resets then s.cfg.snapInit.testBit j.val
    else if s.commands .edge then toggleLevel s.cfg s.pin j
    else s.snapBit j := by
  obtain ⟨hr, rfl⟩ | ⟨i, hr, hc, rfl⟩ := step_next_resolved h
  · rw [resolvedReset_snapBit, State.resets, if_pos hr]
  · by_cases hi : i = .edge
    · subst hi
      simp [resolvedState_snapBit_edge, State.resets, State.commands, hr, hc]
    · simp [resolvedState_snapBit_of_ne_edge s hi, State.resets, State.commands, hr, hc, hi]

/-- A trigger wins over the tick and over whatever the latch held (R47, R95). -/
theorem step_latch_of_triggers {j : Fin 2} (ht : s.triggers j = true) : t.latch j = Latch.trigger s.cfg := by
  rw [step_latch h, resets_eq_false_of_triggers ht, if_neg nofun, if_pos ht]

/-- The legal configuration of a step has a PULSE_LENGTH (R7). -/
theorem one_le_pulseLength_of_step : 1 ≤ s.cfg.pulseLength :=
  (s.cfg.legal_iff.mp (step_next h).1.legal).1

end

/-- Settles O33: `step_latch` and `step_snapBit` read no more of the two states than they agree on. -/
theorem channelsAreIndependent : Obligations.ChannelsAreIndependent := by
  intro i s s' t t' h h' hcfg hlatch hsnap hpin hrst hedge htick hen
  have hresets : s.resets = s'.resets := hrst
  have hlevel : toggleLevel s.cfg s.pin i = toggleLevel s'.cfg s'.pin i := hpin
  have hseen : s.edgeSeen i = s'.edgeSeen i := by
    rw [State.edgeSeen, hlevel, hsnap, State.edgeSeen]
  have htrig : s.triggers i = s'.triggers i := by
    rw [State.triggers, hedge, hseen, State.triggers]
  have hticks : s.ticks = s'.ticks := by
    rw [State.ticks, hrst, htick, hen, State.ticks]
  constructor
  · rw [step_latch h, step_latch h', hresets, htrig, hticks, hcfg, hlatch]
  · rw [step_snapBit h, step_snapBit h', hresets, hedge, hlevel, hcfg, hsnap]

end Sys2Proof.Machine
end

section
/-! SUPPORT. The countdown of a latch (41_debouncer.md R94) and its invariant (R98). -/

namespace Sys2Proof.Machine

/-! ### The countdown -/

theorem Latch.countdown_of_cnt_zero {l : Latch} (h : l.cnt = 0) : l.countdown = l := if_pos h

theorem Latch.countdown_of_cnt_ne_zero {l : Latch} (h : l.cnt ≠ 0) :
    l.countdown = { act := if l.cnt - 1 = 0 then false else l.act, cnt := l.cnt - 1 } := if_neg h

theorem Latch.countdown_cnt (l : Latch) : l.countdown.cnt = l.cnt - 1 := by
  by_cases h : l.cnt = 0
  · rw [countdown_of_cnt_zero h, h]
  · rw [countdown_of_cnt_ne_zero h]

theorem Latch.iterate_countdown_cnt (k : Nat) (l : Latch) : (Latch.countdown^[k] l).cnt = l.cnt - k := by
  induction k with
  | zero => rfl
  | succ k ih => rw [Function.iterate_succ_apply', countdown_cnt, ih, Nat.sub_sub]

/-- Settles O20: the applied tick is `countdown` on both latches. -/
theorem tickCountsDown : Obligations.TickCountsDown := by
  constructor
  · intro s hen
    refine ⟨s.setLatches fun i => (s.latch i).countdown, by rw [exec_tick, if_pos hen], fun i hi => ?_,
      fun i hi => ?_, rfl⟩
    · have hlast : (s.latch i).cnt - 1 = 0 ↔ (s.latch i).cnt = 1 := by omega
      rw [State.setLatches_latch, Latch.countdown_of_cnt_ne_zero hi]
      exact ⟨Nat.succ_pred_eq_of_ne_zero hi, if_congr hlast rfl rfl⟩
    · rw [State.setLatches_latch, Latch.countdown_of_cnt_zero hi]
  · intro s hen
    rw [exec_tick, hen]
    rfl

/-! ### The invariant of R98 -/

theorem Latch.sound_idle (c : Config) : Latch.Sound c { act := false, cnt := 0 } :=
  ⟨by simp, Nat.zero_le _⟩

/-- A trigger needs a PULSE_LENGTH of 1 or more (R7), or it would set ACT with a count of 0. -/
theorem Latch.sound_trigger {c : Config} (h : 1 ≤ c.pulseLength) : (Latch.trigger c).Sound c :=
  ⟨iff_of_true rfl (Nat.one_le_iff_ne_zero.mp h), le_rfl⟩

theorem Latch.Sound.countdown {c : Config} {l : Latch} (h : l.Sound c) : l.countdown.Sound c := by
  obtain ⟨hact, hle⟩ := h
  refine ⟨?_, by rw [countdown_cnt]; omega⟩
  by_cases hz : l.cnt = 0
  · rwa [countdown_of_cnt_zero hz]
  · rw [countdown_of_cnt_ne_zero hz]
    by_cases hlast : l.cnt - 1 = 0
    · simp [hlast]
    · simp [hlast, hact, hz]

theorem Latch.Sound.iterate_countdown {c : Config} {l : Latch} (h : l.Sound c) (k : Nat) :
    (Latch.countdown^[k] l).Sound c := by
  induction k with
  | zero => exact h
  | succ k ih => rw [Function.iterate_succ_apply']; exact ih.countdown

theorem latchesSound_iff (s : State) : s.LatchesSound ↔ ∀ j, (s.latch j).Sound s.cfg :=
  (Fin.forall_fin_two (p := fun j => (s.latch j).Sound s.cfg)).symm

/-- A step keeps each latch sound on its own, whatever the other latch holds. -/
theorem step_keeps_latch_sound {s t : State} {j : Fin 2} (h : step s = .next t) (hs : (s.latch j).Sound s.cfg) :
    (t.latch j).Sound t.cfg := by
  rw [step_cfg h, step_latch h]
  split_ifs
  · exact Latch.sound_idle _
  · exact Latch.sound_trigger (one_le_pulseLength_of_step h)
  · exact hs.countdown
  · exact hs

/-- Settles O29: the reset latches are Idle, and every step keeps each latch sound. -/
theorem stepKeepsLatchesSound : Obligations.StepKeepsLatchesSound := by
  refine ⟨fun c => ⟨Latch.sound_idle c, Latch.sound_idle c⟩, fun s t hs h => ?_⟩
  rw [latchesSound_iff] at hs ⊢
  exact fun j => step_keeps_latch_sound h (hs j)

end Sys2Proof.Machine
end

section
/-! SUPPORT. Runs: what happens along `n + 1` cycles is what happens in the first and along the `n` after it, and the
induction over a run. -/

namespace Sys2Proof.Machine

theorem run_succ_eq_next {n : Nat} {s t : State} (h : run (n + 1) s = .next t) :
    ∃ u, step s = .next u ∧ run n u = .next t :=
  andThen_eq_next h

theorem countAlong_succ (p : State → Bool) (n : Nat) {s u : State} (h : step s = .next u) :
    countAlong p (n + 1) s = (if p s then 1 else 0) + countAlong p n u := by
  rw [countAlong, h]

theorem neverAlong_succ {p : State → Bool} {n : Nat} {s u : State} (h : step s = .next u) :
    NeverAlong p (n + 1) s ↔ p s = false ∧ NeverAlong p n u := by
  unfold NeverAlong
  rw [countAlong_succ p n h]
  cases p s <;> simp

/-- A predicate that every cycle without `p` keeps holds after a run that never meets `p`. -/
theorem run_keeps {p : State → Bool} {P : State → Prop}
    (hstep : ∀ s u, step s = .next u → p s = false → P s → P u) {n : Nat} {s t : State}
    (hrun : run n s = .next t) (hp : NeverAlong p n s) (hs : P s) : P t := by
  induction n generalizing s with
  | zero => cases hrun; exact hs
  | succ n ih =>
    obtain ⟨u, hu, hrun⟩ := run_succ_eq_next hrun
    obtain ⟨hps, hp⟩ := (neverAlong_succ hu).mp hp
    exact ih hrun hp (hstep s u hu hps hs)

/-- Where `q` only holds with `p`, a run that never meets `p` never meets `q`. -/
theorem NeverAlong.mono {p q : State → Bool} (hqp : ∀ u, p u = false → q u = false) {n : Nat} {s t : State}
    (hrun : run n s = .next t) (hp : NeverAlong p n s) : NeverAlong q n s := by
  induction n generalizing s with
  | zero => rfl
  | succ n ih =>
    obtain ⟨u, hu, hrun⟩ := run_succ_eq_next hrun
    obtain ⟨hps, hp⟩ := (neverAlong_succ hu).mp hp
    exact (neverAlong_succ hu).mpr ⟨hqp s hps, ih hrun hp⟩

end Sys2Proof.Machine
end

section
/-! SUPPORT. A pulse over a run (41_debouncer.md R97, R101): with no trigger and no reset a latch counts down once for
each applied tick and changes in no other way. -/

namespace Sys2Proof.Machine

theorem run_latch {j : Fin 2} {n : Nat} {s t : State} (hrun : run n s = .next t)
    (htrig : NeverAlong (fun u => u.triggers j) n s) (hreset : NeverAlong State.resets n s) :
    t.latch j = Latch.countdown^[countAlong State.ticks n s] (s.latch j) := by
  induction n generalizing s with
  | zero => cases hrun; rfl
  | succ n ih =>
    obtain ⟨u, hu, hrun⟩ := run_succ_eq_next hrun
    obtain ⟨hts, htrig⟩ := (neverAlong_succ hu).mp htrig
    obtain ⟨hrs, hreset⟩ := (neverAlong_succ hu).mp hreset
    have hlatch : u.latch j = if s.ticks then (s.latch j).countdown else s.latch j := by
      simp [step_latch hu, hrs, hts]
    rw [ih hrun htrig hreset, hlatch, countAlong_succ _ _ hu]
    cases s.ticks
    · rw [if_neg nofun, if_neg nofun, Nat.zero_add]
    · rw [if_pos rfl, if_pos rfl, Nat.add_comm, Function.iterate_succ_apply]

/-- ACT of a sound latch is told by its count. -/
theorem Latch.Sound.act_eq {c : Config} {l : Latch} (h : l.Sound c) : l.act = decide (0 < l.cnt) := by
  rw [Bool.eq_iff_iff, h.1, decide_eq_true_eq, Nat.pos_iff_ne_zero]

/-- Settles O34: the triggered latch is sound and holds PULSE_LENGTH, and the run counts it down (`run_latch`). -/
theorem pulseLastsItsTicks : Obligations.PulseLastsItsTicks := by
  intro i n s0 s t htrig0 hstep hrun htrig hreset
  have hload : s.latch i = Latch.trigger s0.cfg := step_latch_of_triggers hstep htrig0
  have hlatch := run_latch hrun htrig hreset
  rw [hload] at hlatch
  have hsound : (t.latch i).Sound s0.cfg :=
    hlatch ▸ (Latch.sound_trigger (one_le_pulseLength_of_step hstep)).iterate_countdown _
  have hcnt : (t.latch i).cnt = s0.cfg.pulseLength - countAlong State.ticks n s := by
    rw [hlatch, Latch.iterate_countdown_cnt]
    rfl
  refine ⟨hcnt, ?_⟩
  rw [hsound.act_eq, hcnt]
  exact decide_eq_decide.mpr Nat.sub_pos_iff_lt

/-- Settles O36: with TICK_EN = 0 no tick is applied, and a trigger asks for neither. -/
theorem pulseFreezesWithTicksOff : Obligations.PulseFreezesWithTicksOff := by
  refine ⟨fun i n s t hrun hen htrig hreset => ?_, fun i s t ht h => step_latch_of_triggers h ht⟩
  have hticks : countAlong State.ticks n s = 0 := NeverAlong.mono (fun u hu => by simp [State.ticks, hu]) hrun hen
  rw [run_latch hrun htrig hreset, hticks]
  rfl

end Sys2Proof.Machine
end

section
/-! SUPPORT. The debouncer between a reset and the first EDGE after it (41_debouncer.md R102). -/

namespace Sys2Proof.Machine

/-- The debouncer's registers have their reset values of R30 under configuration `c`. -/
structure State.DebouncerReset (c : Config) (u : State) : Prop where
  cfg : u.cfg = c
  latch : ∀ i, u.latch i = { act := false, cnt := 0 }
  snapBit : ∀ i, u.snapBit i = c.snapInit.testBit i.val

theorem resetWith_debouncerReset (c : Config) (cs : List Cycle) :
    State.DebouncerReset c { State.resetWith c with pending := cs } where
  cfg := rfl
  latch i := by fin_cases i <;> rfl
  snapBit i := snapInit_bit c i

theorem step_debouncerReset_of_resets {s t : State} (h : step s = .next t) (hr : s.resets = true) :
    t.DebouncerReset s.cfg where
  cfg := step_cfg h
  latch i := by rw [step_latch h, if_pos hr]
  snapBit i := by rw [step_snapBit h, if_pos hr]

/-- An Idle latch that no EDGE triggers stays Idle: it has nothing to count down. -/
theorem step_latch_of_idle {s t : State} {j : Fin 2} (h : step s = .next t) (ht : s.triggers j = false)
    (hidle : s.latch j = { act := false, cnt := 0 }) : t.latch j = { act := false, cnt := 0 } := by
  rw [step_latch h, ht, hidle, Latch.countdown_of_cnt_zero rfl]
  simp

/-- Only an EDGE takes the debouncer out of its reset state; ticks and further resets do not. -/
theorem step_keeps_debouncerReset {c : Config} {s t : State} (h : step s = .next t) (he : s.commands .edge = false)
    (hs : s.DebouncerReset c) : t.DebouncerReset c where
  cfg := (step_cfg h).trans hs.cfg
  latch i := step_latch_of_idle h (by simp [State.triggers, he]) (hs.latch i)
  snapBit i := by simp [step_snapBit h, he, hs.cfg, hs.snapBit]

/-- Settles O37: until its first EDGE the debouncer is as reset left it, so the EDGE compares the pin with SNAP_INIT. -/
theorem firstEdgeComparesWithSnapInit : Obligations.FirstEdgeComparesWithSnapInit := by
  intro n s1 s t i hstart hrun hnoEdge hedge hstep
  have hs1 : s1.DebouncerReset s1.cfg := by
    obtain ⟨c, cs, rfl⟩ | ⟨s0, hr, h0⟩ := hstart
    · exact resetWith_debouncerReset c cs
    · exact step_cfg h0 ▸ step_debouncerReset_of_resets h0 hr
  have hs : s.DebouncerReset s1.cfg := run_keeps (fun _ _ => step_keeps_debouncerReset) hrun hnoEdge hs1
  constructor
  · rw [State.triggers, hedge, Bool.true_and, edgeSeen_iff, hs.cfg, hs.snapBit]
  · split_ifs with ht
    · rw [step_latch_of_triggers hstep ht, hs.cfg]
      rfl
    · exact step_latch_of_idle hstep (Bool.eq_false_iff.mpr ht) (hs.latch i)

end Sys2Proof.Machine
end

section
/-! SUPPORT. The axis byte of 42_report.md R111 as a number (R113). -/

namespace Sys2Proof.Machine

theorem axis_toNat (v : Nat) : (axis v).toNat = v / 4 % 256 := BitVec.toNat_ofNat _ _

/-- A sample of 10 bits has its quotient by 4 for its byte: nothing is cut off. -/
theorem axis_toNat_of_lt {v : Nat} (h : v < 1024) : (axis v).toNat = v / 4 := by
  rw [axis_toNat, Nat.mod_eq_of_lt (by omega)]

/-- Settles O26: each clause is about `v / 4`, which is the byte (`axis_toNat_of_lt`). -/
theorem axisByteLaw : Obligations.AxisByteLaw := by
  refine ⟨fun v hv => ⟨?_, axis_toNat_of_lt hv⟩, fun v v' hle hv' => ?_, fun v v' hv hv' => ?_, fun n r hn hr => ?_⟩
  · exact Nat.le_of_lt_succ (axis v).isLt
  · rw [axis_toNat_of_lt (hle.trans_lt hv'), axis_toNat_of_lt hv']
    exact Nat.div_le_div_right hle
  · rw [← BitVec.toNat_inj, axis_toNat_of_lt hv, axis_toNat_of_lt hv']
  · rw [axis_toNat_of_lt (by omega)]
    omega

end Sys2Proof.Machine
end

section
/-! SUPPORT. The button byte of 42_report.md R112, bit by bit. -/

namespace Sys2Proof.Machine

/-- The complement of BTN_INVERT reaches the port's wires and no bit above them. -/
theorem rawButtons_bit (c : Config) (p : PortLevels) {n : Nat} (hn : n < 8) : (rawButtons c p).getLsbD n =
    if c.btnInvert then decide (n < c.pinBits) ^^ p.testBit n else p.testBit n := by
  rw [rawButtons, BitVec.getLsbD_ofNat, decide_eq_true hn, Bool.true_and]
  split
  · rw [Nat.testBit_xor, Nat.testBit_two_pow_sub_one]
  · rfl

theorem mask_bit (c : Config) {n : Nat} (hn : n < 8) : c.mask.getLsbD n = c.buttonMask.testBit n := by
  rw [Config.mask, BitVec.getLsbD_ofNat, decide_eq_true hn, Bool.true_and]

/-- Each flag stands at one bit, and the mask cuts the port alone. -/
theorem buttons_bit (c : Config) (p : PortLevels) (a0 a1 : Bool) {n : Nat} (hn : n < 8) :
    (buttons c p a0 a1).getLsbD n = ((decide (n = 0) && a1) || (decide (n = 1) && a0) ||
      ((rawButtons c p).getLsbD n && c.buttonMask.testBit n)) := by
  have hact1 : ((BitVec.ofBool a1).zeroExtend 8).getLsbD n = (decide (n = 0) && a1) := by
    simp [hn]
  have hact0 : ((BitVec.ofBool a0).zeroExtend 8 <<< 1).getLsbD n = (decide (n = 1) && a0) := by
    cases n with
    | zero => simp
    | succ m => simp [hn]
  rw [buttons, BitVec.getLsbD_or, BitVec.getLsbD_or, BitVec.getLsbD_and, mask_bit c hn, hact0, hact1]
  ac_rfl

/-- On a wire of the port the complement is that wire's. -/
theorem buttons_bit_of_wire (c : Config) (p : PortLevels) (a0 a1 : Bool) {n : Nat} (hwire : n < c.pinBits)
    (hn : n < 8) : (buttons c p a0 a1).getLsbD n = ((decide (n = 0) && a1) || (decide (n = 1) && a0) ||
      ((if c.btnInvert then !(p.testBit n) else p.testBit n) && c.buttonMask.testBit n)) := by
  rw [buttons_bit c p a0 a1 hn, rawButtons_bit c p hn, decide_eq_true hwire, Bool.true_xor]

/-- BUTTON_MASK = 0x7C lets the port through at bits 2 to 6 (R112). -/
theorem default_buttonMask_bit {n : Nat} (hn : n < 8) :
    Config.default.buttonMask.testBit n = decide (2 ≤ n ∧ n ≤ 6) := by
  revert n
  decide

/-- The button byte of the default configuration, whose eight wires are inverted. -/
theorem buttons_default_bit (p : PortLevels) (a0 a1 : Bool) {n : Nat} (hn : n < 8) :
    (buttons Config.default p a0 a1).getLsbD n =
      ((decide (n = 0) && a1) || (decide (n = 1) && a0) || (!(p.testBit n) && decide (2 ≤ n ∧ n ≤ 6))) := by
  rw [buttons_bit_of_wire Config.default p a0 a1 hn hn, default_buttonMask_bit hn]
  rfl

/-- Settles O27: a bit with a wire is `buttons_bit_of_wire`, and under the default mask bits 0, 1 and 7 have no port
bit and bits 6:2 no flag. -/
theorem buttonByteBits : Obligations.ButtonByteBits := by
  refine ⟨fun c p a0 a1 n _ hwire hn => buttons_bit_of_wire c p a0 a1 hwire hn, fun p a0 a1 _ => ⟨?_, ?_, ?_, ?_⟩⟩
  · rw [buttons_default_bit p a0 a1 (by decide)]
    simp
  · rw [buttons_default_bit p a0 a1 (by decide)]
    simp
  · intro n hlow hhigh
    have h0 : n ≠ 0 := by omega
    have h1 : n ≠ 1 := by omega
    simp [buttons_default_bit p a0 a1 (show n < 8 by omega), hlow, hhigh, h0, h1]
  · rw [buttons_default_bit p a0 a1 (by decide)]
    simp

end Sys2Proof.Machine
end

section
/-! SUPPORT. The report over a cycle and over a run (42_report.md R110, R116): only a COMPOSE and a reset write it. -/

namespace Sys2Proof.Machine

section
variable (s : State)

theorem resolvedReset_report (j : Fin 4) : (resolvedReset s).report j = 0#8 := by
  fin_cases j <;> rfl

theorem resolvedState_report (i : Instr) (j : Fin 4) : (resolvedState s i).report j = resolvedReport s j i := by
  fin_cases j <;> rfl

theorem resolvedReport_of_ne_compose {i : Instr} (hi : i ≠ .compose) (j : Fin 4) :
    resolvedReport s j i = s.report j := by
  cases i with
  | compose => exact absurd rfl hi
  | _ => rfl

end

/-- Under `rst` there is no command (R150). -/
theorem resets_eq_false_of_commands {s : State} {i : Instr} (hi : s.commands i = true) : s.resets = false := by
  rw [State.commands, Bool.and_eq_true, Bool.not_eq_true'] at hi
  exact hi.1

/-- R47 for a report byte: zero at a reset, the composed byte at a COMPOSE. -/
theorem step_report {s t : State} (h : step s = .next t) (j : Fin 4) : t.report j =
    if s.resets then 0#8 else if s.commands .compose then s.composed j else s.report j := by
  obtain ⟨hr, rfl⟩ | ⟨i, hr, hc, rfl⟩ := step_next_resolved h
  · rw [resolvedReset_report, State.resets, if_pos hr]
  · rw [resolvedState_report]
    by_cases hi : i = .compose
    · subst hi
      simp [resolvedReport, State.resets, State.commands, hr, hc]
    · simp [resolvedReport_of_ne_compose s hi, State.resets, State.commands, hr, hc, hi]

theorem run_report {n : Nat} {s t : State} (hrun : run n s = .next t)
    (hcompose : NeverAlong (fun u => u.commands .compose) n s) (hreset : NeverAlong State.resets n s) (j : Fin 4) :
    t.report j = s.report j := by
  induction n generalizing s with
  | zero => cases hrun; rfl
  | succ n ih =>
    obtain ⟨u, hu, hrun⟩ := run_succ_eq_next hrun
    obtain ⟨hcs, hcompose⟩ := (neverAlong_succ hu).mp hcompose
    obtain ⟨hrs, hreset⟩ := (neverAlong_succ hu).mp hreset
    rw [ih hrun hcompose hreset, step_report hu]
    simp [hrs, hcs]

/-- Settles O40: the COMPOSE writes the bytes (`step_report`), the run keeps them (`run_report`), READ shows them. -/
theorem reportIsTheLatestCompose : Obligations.ReportIsTheLatestCompose := by
  intro n s0 s u hcompose hstep hrun hnoCompose hnoReset
  have hreport : ∀ j, u.report j = s0.composed j := by
    intro j
    rw [run_report hrun hnoCompose hnoReset, step_report hstep, resets_eq_false_of_commands hcompose, if_neg nofun,
      if_pos hcompose]
  exact ⟨hreport 0, hreport 1, hreport 2, hreport 3, _, exec_read u, rfl⟩

end Sys2Proof.Machine
end

section
/-! SUPPORT. The faults of a cycle (60_exceptions.md R130): the illegal word of the command port and the fault condition of
a legal command, each as an equivalence, and no fault but these. -/

namespace Sys2Proof.Machine

/-- A cycle has an illegal word on its command port exactly when the word is valid and has no instruction (R65, R66). -/
theorem Cycle.exists_command_illegal_iff (c : Cycle) :
    (∃ why, c.command = .illegal why) ↔ c.cmdValid = true ∧ (decode c.cmd).instr? = none := by
  cases hv : c.cmdValid with
  | false => simp [Cycle.command_of_not_valid hv]
  | true =>
    rw [Cycle.command_of_valid hv, eq_self_iff_true, true_and]
    exact ⟨fun ⟨_, h⟩ => h ▸ rfl, Decoded.exists_illegal⟩

/-- The recorded slot is the lowest whose mark is 0 (R130). -/
theorem State.firstUnwritten_eq_some_iff (s : State) (k : Fin 3) :
    s.firstUnwritten = some k ↔ s.smpw k = false ∧ ∀ j, j < k → s.smpw j = true := by
  unfold State.firstUnwritten State.smpw
  cases s.smpw0 <;> cases s.smpw1 <;> cases s.smpw2 <;> revert k <;> decide

/-- Only CONVERT and COMPOSE have a fault condition (R130). -/
theorem commandFault_eq_some_iff (s : State) (i : Instr) (f : Fault) : commandFault s i = some f ↔
    (∃ slot ch, i = .convert slot ch ∧ s.adcEn = false ∧ f = .adcDisabled slot ch) ∨
    (∃ k, i = .compose ∧ s.firstUnwritten = some k ∧ f = .unwrittenSample k) := by
  cases i with
  | convert slot ch => simp [commandFault, eq_comm (a := f)]
  | compose => simp [commandFault, eq_comm (a := f)]
  | _ => simp [commandFault]

/-- R47's fault: of an illegal word, or of a legal command; `rst` comes before both (R135). -/
theorem sameCycle_eq_fault_iff (s : State) (f : Fault) : sameCycle s = .fault f ↔ s.cur.rst = false ∧
    (((∃ why, s.cur.command = .illegal why) ∧ f = .illegalCommand s.cur.cmd) ∨
      ∃ i, s.cur.command = .legal i ∧ commandFault s i = some f) := by
  cases hr : s.cur.rst with
  | true => simp [sameCycle_reset hr]
  | false =>
    cases hc : s.cur.command with
    | illegal why => simp [sameCycle_illegal hr hc, eq_comm]
    | legal i =>
      cases hf : commandFault s i with
      | none => simp [sameCycle_legal hr hc hf, hf]
      | some g => simp [sameCycle_fault hr hc hf, hf]

/-- The commands of a cycle that meet their fault condition, by the two that have one. -/
theorem exists_commandFault_iff (s : State) (f : Fault) :
    (∃ i, s.cur.command = .legal i ∧ commandFault s i = some f) ↔
    (∃ slot ch, s.cur.command = .legal (.convert slot ch) ∧ s.adcEn = false ∧ f = .adcDisabled slot ch) ∨
    (∃ k, s.cur.command = .legal .compose ∧ s.smpw k = false ∧ (∀ j, j < k → s.smpw j = true) ∧
      f = .unwrittenSample k) := by
  simp only [commandFault_eq_some_iff, State.firstUnwritten_eq_some_iff, and_assoc]
  constructor
  · rintro ⟨_, hc, ⟨slot, ch, rfl, h⟩ | ⟨k, rfl, h⟩⟩
    · exact .inl ⟨slot, ch, hc, h⟩
    · exact .inr ⟨k, hc, h⟩
  · rintro (⟨slot, ch, hc, h⟩ | ⟨k, hc, h⟩)
    · exact ⟨_, hc, .inl ⟨slot, ch, rfl, h⟩⟩
    · exact ⟨_, hc, .inr ⟨k, rfl, h⟩⟩

/-- Settles O45: a live step faults as the simultaneous cycle does (`sameCycle_eq_fault_iff`), and the parts are
`Cycle.exists_command_illegal_iff` and `exists_commandFault_iff`. -/
theorem faultsAreTheThree : Obligations.FaultsAreTheThree := by
  refine ⟨fun s f hl => ?_, fun _ _ _ _ => ⟨rfl, rfl, rfl⟩⟩
  rw [cycleIsSimultaneous s hl, sameCycle_eq_fault_iff, Cycle.exists_command_illegal_iff, exists_commandFault_iff,
    and_assoc]

end Sys2Proof.Machine
end

section
/-! SUPPORT. The words of the commands (30_encoding.md R61): a word is its fields put together, so the decoder and the
encoder undo each other, and a word under a mask is its fields under the mask. -/

namespace Sys2Proof

theorem bitVec_append_inj {m n : Nat} (x x' : BitVec m) (y y' : BitVec n) :
    x ++ y = x' ++ y' ↔ x = x' ∧ y = y' := by
  refine ⟨fun h => ⟨?_, ?_⟩, fun ⟨hx, hy⟩ => hx ▸ hy ▸ rfl⟩
  · simpa only [BitVec.extractLsb'_append_eq_left] using congrArg (BitVec.extractLsb' n m) h
  · simpa only [BitVec.extractLsb'_append_eq_right] using congrArg (BitVec.extractLsb' 0 n) h

/-- Two fields side by side, as a number. -/
theorem bitVec_append_toNat {m n : Nat} (x : BitVec m) (y : BitVec n) :
    (x ++ y).toNat = x.toNat * 2 ^ n + y.toNat := by
  rw [BitVec.toNat_append, ← Nat.shiftLeft_add_eq_or_of_lt y.isLt, Nat.shiftLeft_eq]

section
variable (w : CmdWord)

/-! ### A word as its fields, in the layout of each command -/

theorem bareFields_append : opField w ++ lowField w = w :=
  BitVec.extractLsb'_append_extractLsb' (w := 4) (len := 12)

theorem convertFields_append : opField w ++ slotField w ++ reservedField w ++ chField w = w := by
  rw [opField, slotField, reservedField, chField,
    BitVec.extractLsb'_append_extractLsb'_eq_extractLsb' (show 12 = 10 + 2 from rfl),
    BitVec.extractLsb'_append_extractLsb'_eq_extractLsb' (show 10 = 5 + 5 from rfl),
    BitVec.extractLsb'_append_extractLsb'_eq_extractLsb' (show 5 = 0 + 5 from rfl)]
  exact BitVec.extractLsb'_eq_self

theorem ofBool_getLsbD (n : Nat) : BitVec.ofBool (w.getLsbD n) = w.extractLsb' n 1 := by
  ext i hi
  simp [Nat.lt_one_iff.mp hi]

theorem setctrlFields_append :
    opField w ++ ctrlReservedField w ++ BitVec.ofBool (teBit w) ++ BitVec.ofBool (aeBit w) = w := by
  rw [opField, ctrlReservedField, teBit, aeBit, ofBool_getLsbD, ofBool_getLsbD,
    BitVec.extractLsb'_append_extractLsb'_eq_extractLsb' (show 12 = 2 + 10 from rfl),
    BitVec.extractLsb'_append_extractLsb'_eq_extractLsb' (show 2 = 1 + 1 from rfl),
    BitVec.extractLsb'_append_extractLsb'_eq_extractLsb' (show 1 = 0 + 1 from rfl)]
  exact BitVec.extractLsb'_eq_self

theorem eq_bareFields_iff (op : BitVec 4) (low : BitVec 12) :
    w = op ++ low ↔ opField w = op ∧ lowField w = low := by
  conv_lhs => rw [← bareFields_append w]
  exact bitVec_append_inj _ _ _ _

theorem eq_convertFields_iff (op : BitVec 4) (slot : Slot) (res : BitVec 5) (ch : Chan) :
    w = op ++ slot ++ res ++ ch ↔ opField w = op ∧ slotField w = slot ∧ reservedField w = res ∧ chField w = ch := by
  conv_lhs => rw [← convertFields_append w]
  exact (bitVec_append_inj _ _ _ _).trans (by simp only [bitVec_append_inj, and_assoc])

theorem eq_setctrlFields_iff (op : BitVec 4) (res : BitVec 10) (te ae : Bool) :
    w = op ++ res ++ BitVec.ofBool te ++ BitVec.ofBool ae ↔
      opField w = op ∧ ctrlReservedField w = res ∧ teBit w = te ∧ aeBit w = ae := by
  conv_lhs => rw [← setctrlFields_append w]
  exact (bitVec_append_inj _ _ _ _).trans (by simp only [bitVec_append_inj, and_assoc, BitVec.ofBool_eq_iff_eq])

theorem chField_eq_iff (v : Chan) : chField w = v ↔ w.toNat % 32 = v.toNat := by
  simp only [← BitVec.toNat_inj, chField, BitVec.extractLsb'_toNat, Nat.shiftRight_zero, Nat.reducePow]

/-! ### When each part of the decoder accepts -/

theorem decodeBare_eq_legal_iff (i j : Instr) : decodeBare w j = .legal i ↔ lowField w = 0#12 ∧ j = i := by
  unfold decodeBare
  split_ifs with hlow <;> simp [hlow]

theorem decodeConvert_eq_legal_iff (i : Instr) : decodeConvert w = .legal i ↔
    slotField w ≠ 3#2 ∧ reservedField w = 0#5 ∧ .convert (slotField w) (chField w) = i := by
  unfold decodeConvert
  split_ifs with hslot hres <;> simp [*]

theorem decodeSetctrl_eq_legal_iff (i : Instr) : decodeSetctrl w = .legal i ↔
    ctrlReservedField w = 0#10 ∧ .setctrl (teBit w) (aeBit w) = i := by
  unfold decodeSetctrl
  split_ifs with hres <;> simp [hres]

variable {w}

theorem decode_of_op_convert (h : opField w = 0x1#4) : decode w = decodeConvert w := by
  rw [decode, h]
  rfl

theorem decode_of_op_setctrl (h : opField w = 0x4#4) : decode w = decodeSetctrl w := by
  rw [decode, h]
  rfl

/-! ### The decoder and the encoder undo each other -/

/-- What the decoder checks and reads is every field, so the word is the one those fields make. -/
theorem encode_of_decode {i : Instr} (h : decode w = .legal i) : encode i = some w := by
  unfold decode at h
  split_ifs at h with hnop hconvert hedge hcompose hsetctrl
  · obtain ⟨hlow, rfl⟩ := (decodeBare_eq_legal_iff w _ _).mp h
    exact congrArg some ((eq_bareFields_iff w _ _).mpr ⟨hnop, hlow⟩).symm
  · obtain ⟨-, hres, rfl⟩ := (decodeConvert_eq_legal_iff w _).mp h
    exact congrArg some ((eq_convertFields_iff w _ _ _ _).mpr ⟨hconvert, rfl, hres, rfl⟩).symm
  · obtain ⟨hlow, rfl⟩ := (decodeBare_eq_legal_iff w _ _).mp h
    exact congrArg some ((eq_bareFields_iff w _ _).mpr ⟨hedge, hlow⟩).symm
  · obtain ⟨hlow, rfl⟩ := (decodeBare_eq_legal_iff w _ _).mp h
    exact congrArg some ((eq_bareFields_iff w _ _).mpr ⟨hcompose, hlow⟩).symm
  · obtain ⟨hres, rfl⟩ := (decodeSetctrl_eq_legal_iff w _).mp h
    exact congrArg some ((eq_setctrlFields_iff w _ _ _ _).mpr ⟨hsetctrl, hres, rfl, rfl⟩).symm

theorem decode_of_encode {i : Instr} (hwf : i.WellFormed) (h : encode i = some w) : decode w = .legal i := by
  cases i with
  | nop | edge | compose => cases h; decide
  | convert slot ch =>
    obtain ⟨hop, hslot, hres, hch⟩ := (eq_convertFields_iff w _ _ _ _).mp (Option.some.inj h).symm
    rw [decode_of_op_convert hop, decodeConvert_eq_legal_iff, hslot, hch]
    exact ⟨bne_iff_ne.mp hwf, hres, rfl⟩
  | setctrl te ae =>
    obtain ⟨hop, hres, hte, hae⟩ := (eq_setctrlFields_iff w _ _ _ _).mp (Option.some.inj h).symm
    rw [decode_of_op_setctrl hop, decodeSetctrl_eq_legal_iff, hte, hae]
    exact ⟨hres, rfl⟩
  | tick | read | reset => cases h

theorem decode_eq_legal_iff {i : Instr} : decode w = .legal i ↔ i.WellFormed ∧ encode i = some w :=
  ⟨fun h => ⟨(wellFormed_of_decode h).1, encode_of_decode h⟩, fun ⟨hwf, h⟩ => decode_of_encode hwf h⟩

end

/-- Only the strobes have no word (R67). -/
theorem exists_encode {i : Instr} (h : i.isStrobe = false) : ∃ w, encode i = some w := by
  cases i with
  | tick | read | reset => cases h
  | _ => exact ⟨_, rfl⟩

/-- Settles O6: the word's fields are those the instruction was encoded from (`decode_of_encode`). -/
theorem decodeInvertsEncode : Obligations.DecodeInvertsEncode := by
  intro i hwf hstrobe
  obtain ⟨w, hw⟩ := exists_encode hstrobe
  exact ⟨w, hw, decode_of_encode hwf hw⟩

/-- Settles O7: one direction of `decode_eq_legal_iff`. -/
theorem encodeInvertsDecode : Obligations.EncodeInvertsDecode := fun _ _ => decode_eq_legal_iff.mp

/-! ### The match and mask table -/

section
variable (w : CmdWord)

theorem and_bareMask : w &&& 0xFFFF#16 = w := BitVec.and_allOnes

/-- The mask of CONVERT covers OP and the reserved bits and clears the two operands. -/
theorem and_convertMask_eq_iff : w &&& 0xF3E0#16 = 0x1000#16 ↔ opField w = 0x1#4 ∧ reservedField w = 0#5 := by
  have hop : opField w &&& 0xF#4 = opField w := BitVec.and_allOnes
  have hres : reservedField w &&& 0x1F#5 = reservedField w := BitVec.and_allOnes
  refine (eq_convertFields_iff (w &&& 0xF3E0#16) 0x1#4 0#2 0#5 0#5).trans ?_
  rw [← hop, ← hres]
  simp [opField, slotField, reservedField, chField, BitVec.extractLsb'_and]

/-- The mask of SETCTRL covers OP and the reserved bits and clears the two control bits. -/
theorem and_setctrlMask_eq_iff : w &&& 0xFFFC#16 = 0x4000#16 ↔ opField w = 0x4#4 ∧ ctrlReservedField w = 0#10 := by
  have hop : opField w &&& 0xF#4 = opField w := BitVec.and_allOnes
  have hres : ctrlReservedField w &&& 0x3FF#10 = ctrlReservedField w := BitVec.and_allOnes
  refine (eq_setctrlFields_iff (w &&& 0xFFFC#16) 0x4#4 0#10 false false).trans ?_
  rw [← hop, ← hres]
  simp [opField, ctrlReservedField, teBit, aeBit, BitVec.extractLsb'_and]

theorem decode_eq_legal_iff_eq {i : Instr} {v : CmdWord} (hwf : i.WellFormed) (hv : encode i = some v) :
    decode w = .legal i ↔ w = v := by
  rw [decode_eq_legal_iff, and_iff_right hwf, hv, Option.some_inj, eq_comm]

theorem decode_eq_convert_iff (slot : Slot) (ch : Chan) : decode w = .legal (.convert slot ch) ↔
    slot ≠ 3#2 ∧ opField w = 0x1#4 ∧ slotField w = slot ∧ reservedField w = 0#5 ∧ chField w = ch := by
  rw [decode_eq_legal_iff, ← eq_convertFields_iff, eq_comm (a := w)]
  exact and_congr bne_iff_ne Option.some_inj

theorem decode_eq_setctrl_iff (te ae : Bool) : decode w = .legal (.setctrl te ae) ↔
    opField w = 0x4#4 ∧ ctrlReservedField w = 0#10 ∧ teBit w = te ∧ aeBit w = ae :=
  (decode_eq_legal_iff_eq w rfl rfl).trans (eq_setctrlFields_iff w _ _ _ _)

theorem decode_ne_strobe {i : Instr} (hi : i.isStrobe = true) : decode w ≠ .legal i := fun h =>
  absurd hi (by simp [(wellFormed_of_decode h).2])

end

/-- Settles O5: a mask is the fields the decoder checks, and the operands are the fields it reads. -/
theorem decoderFollowsMatchAndMask : Obligations.DecoderFollowsMatchAndMask := by
  intro w
  rw [and_bareMask, and_convertMask_eq_iff, and_setctrlMask_eq_iff]
  refine ⟨decode_eq_legal_iff_eq w rfl rfl, fun slot ch => ?_, decode_eq_legal_iff_eq w rfl rfl,
    decode_eq_legal_iff_eq w rfl rfl, fun te ae => ?_, decode_ne_strobe w rfl, decode_ne_strobe w rfl,
    decode_ne_strobe w rfl⟩
  · rw [decode_eq_convert_iff, eq_comm (a := slot.toNat), ← slotField_eq_iff, eq_comm (a := ch.toNat), ← chField_eq_iff]
    tauto
  · rw [decode_eq_setctrl_iff, eq_comm (a := te), eq_comm (a := ae), and_assoc]
    rfl

/-- Settles O4: the decoder computes each listed word. -/
theorem decoderReadsListedWords : Obligations.DecoderReadsListedWords := by
  unfold Obligations.DecoderReadsListedWords
  decide

namespace Machine

/-- Settles O15: a word below 0x1000 has OP = 0 and is its own operand bits. -/
theorem nopWritesNothing : Obligations.NopWritesNothing := by
  refine ⟨exec_nop, decode_zero, fun w hpos hlt => ?_⟩
  have hop : opField w = 0#4 := (opField_eq_iff w _).mpr (Nat.div_eq_of_lt hlt)
  have hlow : lowField w ≠ 0#12 := fun hlow =>
    hpos.ne' (Nat.mod_eq_of_lt hlt ▸ (lowField_eq_iff w _).mp hlow)
  rw [decode, if_pos hop, decodeBare, if_neg hlow]

end Machine

end Sys2Proof
end

section
/-! SUPPORT. The words of the assembler (30_encoding.md R70) as numbers. -/

namespace Sys2Proof

theorem convertWord_toNat (slot : Slot) (ch : Chan) :
    (0x1#4 ++ slot ++ 0#5 ++ ch : CmdWord).toNat = 0x1000 + 1024 * slot.toNat + ch.toNat := by
  refine (bitVec_append_toNat _ _).trans ?_
  rw [bitVec_append_toNat, bitVec_append_toNat, BitVec.toNat_ofNat, BitVec.toNat_ofNat]
  omega

namespace Machine

theorem encode_convertOf {slot ch : Nat} (hslot : slot < 3) (hch : ch < 32) :
    encode (convertOf slot ch) = some (BitVec.ofNat 16 (0x1000 + 1024 * slot + ch)) := by
  refine congrArg some (BitVec.eq_of_toNat_eq ?_)
  have hword := convertWord_toNat (BitVec.ofNat 2 slot) (BitVec.ofNat 5 ch)
  simp only [BitVec.toNat_ofNat] at hword ⊢
  omega

/-- Settles O50: in range the words are `encode_convertOf` and the four of SETCTRL, and out of range nothing expands. -/
theorem assemblerChecksRanges : Obligations.AssemblerChecksRanges := by
  constructor
  · intro slot ch
    by_cases h : slot ≤ 2 ∧ ch ≤ 31
    · have hslot : slot < 3 := by omega
      have hch : ch < 32 := by omega
      rw [if_pos h, Asm.words, Asm.expand_convert hslot hch, Option.bind_some, List.mapM_cons,
        encode_convertOf hslot hch]
      rfl
    · rw [if_neg h, Asm.words, Asm.expand, if_neg (by omega)]
      rfl
  · intro imm2
    by_cases h : imm2 ≤ 3
    · rw [if_pos h]
      interval_cases imm2 <;> rfl
    · rw [if_neg h, Asm.words, Asm.expand, if_neg (by omega)]
      rfl

end Machine

end Sys2Proof
end

section
/-! SUPPORT. The widths of CHSEL and of the samples (10_state.md R25, R26): each value written is cut to its width. -/

namespace Sys2Proof.Machine

theorem resolvedState_smp (s : State) (i : Instr) (k : Fin 3) : (resolvedState s i).smp k = resolvedSmp s k i := by
  fin_cases k <;> rfl

theorem resolvedReset_smp (s : State) (k : Fin 3) :
    (resolvedReset s).smp k = s.cfg.atAdcBits (Config.freeSmp s.clock k) := by
  fin_cases k <;> rfl

theorem resetWith_smp (c : Config) (k : Fin 3) : (State.resetWith c).smp k = 0 := by
  fin_cases k <;> rfl

theorem resetWith_widthsFit (c : Config) : (State.resetWith c).WidthsFit where
  chsel := Nat.two_pow_pos _
  smp k := resetWith_smp c k ▸ Nat.two_pow_pos _

theorem resolvedReset_widthsFit (s : State) : (resolvedReset s).WidthsFit where
  chsel := Nat.two_pow_pos _
  smp k := resolvedReset_smp s k ▸ atAdcBits_lt _ _

theorem resolvedState_widthsFit {s : State} (hs : s.WidthsFit) (i : Instr) : (resolvedState s i).WidthsFit where
  chsel := by
    cases i with
    | convert slot ch => exact channelOf_lt s.cfg ch
    | _ => exact hs.chsel
  smp k := by
    rw [resolvedState_smp]
    cases i with
    | convert slot ch =>
      rw [resolvedSmp]
      split_ifs
      · exact atAdcBits_lt _ _
      · exact hs.smp k
    | _ => exact hs.smp k

/-- Settles O31: only a reset and a CONVERT write these registers, and both cut the value to its width. -/
theorem stepKeepsWidths : Obligations.StepKeepsWidths := by
  refine ⟨resetWith_widthsFit, fun s t hs h => ?_⟩
  obtain ⟨-, rfl⟩ | ⟨i, -, -, rfl⟩ := step_next_resolved h
  · exact resolvedReset_widthsFit s
  · exact resolvedState_widthsFit hs i

end Sys2Proof.Machine
end

section
/-! SUPPORT. What a step needs and what it always answers (00_scope.md R7, 60_exceptions.md R131, R133). -/

namespace Sys2Proof.Machine

/-! ### The model's own fields over a step -/

section
variable {s t : State} (h : step s = .next t)
include h

theorem step_mark : t.mark = s.mark := by
  obtain ⟨-, rfl⟩ | ⟨i, -, -, rfl⟩ := step_next_resolved h <;> rfl

theorem step_pending : t.pending = s.pending.tail := by
  obtain ⟨-, rfl⟩ | ⟨i, -, -, rfl⟩ := step_next_resolved h <;> rfl

theorem step_clock : t.clock = s.clock + 1 := by
  obtain ⟨-, rfl⟩ | ⟨i, -, -, rfl⟩ := step_next_resolved h <;> rfl

/-- A READ shows the report before the cycle, in a reset cycle too (R115, R150). -/
theorem step_shown : t.shown = resolvedShown s := by
  obtain ⟨-, rfl⟩ | ⟨i, -, -, rfl⟩ := step_next_resolved h <;> rfl

end

/-- Settles O42: a step that answers starts from a live state and keeps all that makes it live. -/
theorem stepKeepsConfiguration : Obligations.StepKeepsConfiguration := by
  intro s t h
  obtain ⟨hl, -⟩ := step_next h
  have hcfg := step_cfg h
  exact ⟨hcfg, ⟨hcfg ▸ hl.legal, hcfg ▸ hl.laidOut, (step_mark h).trans hl.unmarked⟩, step_pending h, step_clock h⟩

/-- Settles O30: the reset part of `stepKeepsLatchesSound`, under the default configuration. -/
theorem latchesSoundAtReset : Obligations.LatchesSoundAtReset := stepKeepsLatchesSound.1 Config.default

/-- Settles O32: a sound count is at most PULSE_LENGTH, which R7 bounds by the width. -/
theorem countFitsItsWidth : Obligations.CountFitsItsWidth := by
  intro s t hs h i
  obtain ⟨-, hle⟩ := (latchesSound_iff t).mp (stepKeepsLatchesSound.2 s t hs h) i
  obtain ⟨-, hwidth, -⟩ := (Config.legal_iff _).mp (step_next h).1.legal
  have hpos := Nat.two_pow_pos s.cfg.cntWidth
  rw [step_cfg h] at hle ⊢
  omega

/-! ### Stops and refusals -/

theorem sameCycle_ne_refused (s : State) (q : Refusal) : sameCycle s ≠ .refused q := by
  unfold sameCycle
  split_ifs
  · nofun
  · split
    · nofun
    · split <;> nofun

/-- Settles O48: a live step is the simultaneous cycle, which refuses nothing. -/
theorem liveCycleCompletesOrFaults : Obligations.LiveCycleCompletesOrFaults := by
  intro s hl
  rw [cycleIsSimultaneous s hl]
  cases h : sameCycle s with
  | next t => exact .inl ⟨t, rfl⟩
  | fault f => exact .inr ⟨f, rfl⟩
  | refused q => exact absurd h (sameCycle_ne_refused s q)

theorem step_of_unlaid {s : State} (hlegal : s.cfg.legal = true) (hlaid : s.cfg.laidOut = false) :
    step s = .refused .noLayout := by
  unfold step clockEdge
  rw [hlegal, hlaid]
  rfl

/-- Settles O44: the layout test is on these two numbers alone. -/
theorem unlaidSizesAreRefused : Obligations.UnlaidSizesAreRefused := by
  constructor
  · intro s hlegal hsize
    refine step_of_unlaid hlegal ?_
    rwa [Config.laidOut, Bool.and_eq_false_iff, decide_eq_false_iff_not, decide_eq_false_iff_not]
  · intro c htoggle hslot
    rw [Config.laidOut, htoggle, hslot]
    rfl

/-- The fault mark is tested before the inputs. -/
theorem step_of_marked {s : State} {f : Fault} (hlegal : s.cfg.legal = true) (hlaid : s.cfg.laidOut = true)
    (hmark : s.mark = some f) : step s = .fault f := by
  unfold step clockEdge
  rw [hlegal, hlaid, hmark]
  rfl

theorem runCycles_cons_next {c : Cycle} {cs : List Cycle} {s t : State}
    (h : step { s with pending := c :: cs } = .next t) : runCycles (c :: cs) s = runCycles cs t := by
  conv_lhs => unfold runCycles
  rw [h]

theorem runCycles_cons_fault {c : Cycle} {cs : List Cycle} {s : State} {f : Fault}
    (h : step { s with pending := c :: cs } = .fault f) : runCycles (c :: cs) s = .faulted (s.stop f) f := by
  conv_lhs => unfold runCycles
  rw [h]

/-- Settles O46: a run ends at its first fault, and a marked state steps to its fault (`step_of_marked`). -/
theorem faultEndsTheRun : Obligations.FaultEndsTheRun :=
  ⟨fun _ _ _ _ h => ⟨runCycles_cons_fault h, rfl, rfl⟩, fun s _ cs => step_of_marked (s := { s with pending := cs })⟩

end Sys2Proof.Machine
end

section
/-! SUPPORT. Reset (10_state.md R30, 70_reset_and_hazards.md R150): the state after it is made of the configuration, the
free samples and the model's own fields, and of no register before it. -/

namespace Sys2Proof.Machine

/-- R30's table says nothing of the samples and of the model's own fields. -/
theorem resetWith_registersReset (c : Config) (v0 v1 v2 : Sample) (m : Option Fault) (ws : List ReportWord)
    (cs : List Cycle) (n : Nat) : State.RegistersReset { State.resetWith c with
      smp0 := v0, smp1 := v1, smp2 := v2, mark := m, shown := ws, pending := cs, clock := n } where
  latches i := by fin_cases i <;> rfl
  snap := rfl
  chsel := rfl
  marks k := by fin_cases k <;> rfl
  report j := by fin_cases j <;> rfl
  ctrl := twoBits false false

/-- Settles O1: `resetRegisters` takes every register from `State.resetWith` but the samples. -/
theorem resetGivesResetValues : Obligations.ResetGivesResetValues := fun s =>
  ⟨s.resetRegisters, exec_reset s, resetWith_registersReset s.cfg _ _ _ _ _ _ _, rfl, rfl, rfl, rfl, rfl⟩

/-- Settles O2: `State.reset` is `State.resetWith` of the default configuration, which is legal. -/
theorem resetStateHasResetValues : Obligations.ResetStateHasResetValues :=
  ⟨resetWith_registersReset Config.default _ _ _ _ _ _ _, ⟨by decide, by decide, rfl⟩, rfl,
    resetWith_smp Config.default, rfl, rfl⟩

theorem step_reset {s : State} (hl : s.Live) (hr : s.cur.rst = true) : step s = .next (resolvedReset s) := by
  rw [cycleIsSimultaneous s hl, sameCycle_reset hr]

/-- Settles O3: `rst` is tested before the command and the tick (`step_reset`). -/
theorem resetCycleOverridesAll : Obligations.ResetCycleOverridesAll := fun s hl hr =>
  ⟨_, step_reset hl hr, resetWith_registersReset s.cfg _ _ _ _ _ _ _, rfl, hl.unmarked, rfl, rfl⟩

theorem State.Live.setPending {s : State} (h : s.Live) (cs : List Cycle) : State.Live { s with pending := cs } :=
  ⟨h.legal, h.laidOut, h.unmarked⟩

/-- Settles O47: the reset cycle leaves both states equal, and the runs go on from there. -/
theorem runForgetsTheStateBeforeReset : Obligations.RunForgetsTheStateBeforeReset := by
  intro c cs s s' hstart hrd hl hl' hcfg hshown hclock
  have hr : c.rst = true := hstart
  have hstep := step_reset (hl.setPending (c :: cs)) hr
  have hstep' := step_reset (hl'.setPending (c :: cs)) hr
  have hsame : resolvedReset { s with pending := c :: cs } = resolvedReset { s' with pending := c :: cs } := by
    simp [resolvedReset, resolvedShown, State.cur, hrd, hcfg, hshown, hclock, hl.unmarked, hl'.unmarked]
  rw [runCycles_cons_next hstep, runCycles_cons_next hstep', hsame]

end Sys2Proof.Machine
end

section
/-! SUPPORT. The cycle of one operation (30_encoding.md R69, 20_memory.md R48): with nothing else in it, a cycle is `exec`
of its command or of its strobe. -/

namespace Sys2Proof.Machine

/-- Settles O9: the cycle of R48 without its strobes. -/
theorem commandCycleRunsItsCommand : Obligations.CommandCycleRunsItsCommand := by
  intro s i hl hr htick hrd hv hi
  rw [cycleIsSerialised s i hl hr ((Cycle.command_of_valid hv).trans hi), hrd, htick]
  by_cases hc : i = .compose <;> simp [hc]

theorem step_ofInstr_command {s : State} {i : Instr} {p : Option PortLevels} {a : Option Sample} {rest : List Cycle}
    (hl : s.Live) (hwf : i.WellFormed) (hstrobe : i.isStrobe = false) (hp : s.pending = Cycle.ofInstr i p a :: rest) :
    step s = andThen (exec i s) fun t => .next t.endCycle := by
  obtain ⟨w, hw, hi⟩ := decodeInvertsEncode i hwf hstrobe
  have hne {j : Instr} (hj : j.isStrobe = true) : decide (i = j) = false :=
    decide_eq_false fun h => absurd hj (by simp [← h, hstrobe])
  refine commandCycleRunsItsCommand s i hl ?_ ?_ ?_ ?_ ?_ <;> rw [State.cur_of_pending hp]
  · exact hne rfl
  · exact hne rfl
  · exact hne rfl
  · exact congrArg Option.isSome hw
  · rwa [Cycle.ofInstr, hw]

/-- Settles O10: a command by its word, TICK and READ beside the NOP of an empty command port, RESET before any. -/
theorem encodedCycleRunsItsOperation : Obligations.EncodedCycleRunsItsOperation := by
  intro s i p a rest hl hwf hp
  have hcur : s.cur = Cycle.ofInstr i p a := State.cur_of_pending hp
  cases i with
  | tick | read =>
    rw [cycleIsSerialised s .nop hl (hcur ▸ rfl) (hcur ▸ rfl), hcur]
    rfl
  | reset =>
    rw [step_of_live hl, runCycle_reset (hcur ▸ rfl), hcur]
    rfl
  | _ => exact step_ofInstr_command hl hwf rfl hp

theorem afterStrobes_of_no_strobe {s : State} (htick : s.cur.tick = false) (hrd : s.cur.rd = false) :
    afterStrobes s = s := by
  simp [afterStrobes, htick, hrd]

/-- Settles O14: a list that has run out gives the idle cycle, which is a NOP without strobes. -/
theorem quietCycleHoldsState : Obligations.QuietCycleHoldsState := by
  intro s hl hp
  have hcur : s.cur = Cycle.idle := by rw [State.cur, hp]; rfl
  rw [step_of_live hl, runCycle_nop (hcur ▸ rfl) (hcur ▸ rfl), afterStrobes_of_no_strobe (hcur ▸ rfl) (hcur ▸ rfl),
    State.endCycle, hp]
  rfl

theorem State.commands_iff (s : State) (i : Instr) :
    s.commands i = true ↔ s.cur.rst = false ∧ s.cur.command = .legal i := by
  rw [State.commands, Bool.and_eq_true, Bool.not_eq_true', decide_eq_true_eq]

/-- Settles O49: by what is on the command port; under `rst` nothing counts as a command. -/
theorem adcChannelOutput : Obligations.AdcChannelOutput := by
  intro s
  constructor
  · intro slot ch h
    obtain ⟨hr, hc⟩ := (s.commands_iff _).mp h
    simp only [State.adcCh, hr, hc]
    rfl
  · intro hno
    unfold State.adcCh
    split_ifs with hr
    · rfl
    · split
      next slot ch hc =>
        have hyes := (s.commands_iff _).mpr ⟨Bool.eq_false_iff.mpr hr, hc⟩
        simp [hno slot ch] at hyes
      · rfl
      · rfl

end Sys2Proof.Machine
end

section
/-! SUPPORT. CONVERT (40_adc_mux.md R80): the slot of its field, and what the capture leaves of the others. -/

namespace Sys2Proof.Machine

theorem slotIndex_eq_some_iff {slot : Slot} {k : Fin 3} : slotIndex slot = some k ↔ slot.toNat = k.val := by
  revert slot k
  decide

theorem State.adcSample_of_given {s : State} {v : Sample} (h : s.cur.adc = some v) (ch : Channel) :
    s.adcSample ch = v % 2 ^ s.cfg.adcBits := by
  rw [State.adcSample, h]
  rfl

theorem State.setSample_of_ne (s : State) {k j : Fin 3} (h : k ≠ j) (v : Sample) :
    (s.setSample k v).smp j = s.smp j ∧ (s.setSample k v).smpw j = s.smpw j := by
  rw [State.setSample_smp, State.setSample_smpw, if_neg h, if_neg h]
  exact ⟨rfl, rfl⟩

/-- Settles O17: the capture writes CHSEL and its slot (`setSample_smp`, `setSample_of_ne`). -/
theorem convertCapturesSample : Obligations.ConvertCapturesSample := by
  intro slot ch k s hk hen
  refine ⟨(s.setChsel (channelOf s.cfg ch)).setSample k (s.adcSample (channelOf s.cfg ch)), ?_, rfl, channelOf_wide ch,
    ?_, ?_, fun v hv => ?_, fun j hj => State.setSample_of_ne _ hj.symm _, rfl⟩
  · rw [exec_convert s (slotIndex_eq_some_iff.mpr hk), if_pos hen]
    rfl
  · rw [State.setSample_smp, if_pos rfl]
    rfl
  · rw [State.setSample_smpw, if_pos rfl]
  · rw [State.setSample_smp, if_pos rfl, State.adcSample_of_given hv]

/-- Settles O18: with the ADC off no legal slot is captured, and SLOT = 3 names no slot. -/
theorem convertStopsByName : Obligations.ConvertStopsByName := by
  refine ⟨fun slot ch s hslot hen => ?_, fun ch s => ⟨_, convertWord_toNat 3#2 ch, rfl⟩⟩
  obtain ⟨k, hk, -⟩ := slotIndex_of_ne_three hslot
  rw [exec_convert s hk, hen]
  rfl

end Sys2Proof.Machine
end

section
/-! SUPPORT. EDGE, COMPOSE and READ (41_debouncer.md R92, 42_report.md R110, R115), and which operation writes what
(10_state.md section 7). -/

namespace Sys2Proof.Machine

theorem State.pin_of_given {s : State} {v : PortLevels} (h : s.cur.pin = some v) : s.pin = v % 2 ^ s.cfg.pinBits := by
  rw [State.pin, h]
  rfl

/-- Settles O19: `edgeSeen` is the comparison of the pin with SNAP. -/
theorem edgeTriggersAndRecords : Obligations.EdgeTriggersAndRecords := by
  intro s
  refine ⟨_, exec_edge s, fun i hi => ?_, fun i hi => ?_, snapOf_bit s.cfg s.pin, fun _ => State.pin_of_given, rfl⟩
  · rw [State.setSnap_latch, State.setLatches_latch, if_pos ((edgeSeen_iff s i).mpr hi)]
    rfl
  · rw [State.setSnap_latch, State.setLatches_latch, if_neg fun h => (edgeSeen_iff s i).mp h hi]

theorem exec_compose_of_written {s : State} (h : s.firstUnwritten = none) :
    exec .compose s = .next (s.setReport s.composed) := by
  simp only [exec, execCompose, h]

theorem exec_compose_of_unwritten {s : State} {k : Fin 3} (h : s.firstUnwritten = some k) :
    exec .compose s = .fault (.unwrittenSample k) := by
  simp only [exec, execCompose, h, raise_eq]

/-- Settles O21: with no slot unwritten the report is overwritten with the composed bytes. -/
theorem composeOverwritesReport : Obligations.ComposeOverwritesReport := by
  intro s hw
  have hnone : s.firstUnwritten = none := s.firstUnwritten_eq_none.mpr ⟨hw 0, hw 1, hw 2⟩
  exact ⟨_, exec_compose_of_written hnone, axis_toNat _, axis_toNat _, axis_toNat _, rfl,
    fun _ => State.pin_of_given, rfl⟩

/-- Settles O22: the recorded slot is the lowest unwritten one (`firstUnwritten_eq_some_iff`). -/
theorem composeStopsOnLowestUnwritten : Obligations.ComposeStopsOnLowestUnwritten := fun s k hk hlow =>
  exec_compose_of_unwritten ((s.firstUnwritten_eq_some_iff k).mpr ⟨hk, hlow⟩)

/-- The little-endian view as a number (R42 b). -/
theorem reportWord_toNat (s : State) : s.reportWord.toNat =
    ((s.report3.toNat * 2 ^ 8 + s.report2.toNat) * 2 ^ 8 + s.report1.toNat) * 2 ^ 8 + s.report0.toNat := by
  rw [State.reportWord]
  simp only [bitVec_append_toNat]

theorem reportWord_byte (s : State) (j : Fin 4) :
    s.reportWord.toNat / 2 ^ (8 * j.val) % 256 = (s.report j).toNat := by
  have h0 := s.report0.isLt
  have h1 := s.report1.isLt
  have h2 := s.report2.isLt
  have h3 := s.report3.isLt
  rw [reportWord_toNat]
  fin_cases j <;> simp [State.report] <;> omega

/-- Settles O23: the word shown is `reportWord`, byte by byte. -/
theorem readPresentsReport : Obligations.ReadPresentsReport := fun s =>
  ⟨_, s.reportWord, exec_read s, rfl, reportWord_byte s, rfl⟩

/-- SNAP then holds the pins the next comparison is made with. -/
theorem edgeSeen_after_edge (s : State) (f : Fin 2 → Latch) (i : Fin 2) :
    ((s.setLatches f).setSnap (snapOf s.cfg s.pin)).edgeSeen i = false := by
  have hsnap : ((s.setLatches f).setSnap (snapOf s.cfg s.pin)).snapBit i = toggleLevel s.cfg s.pin i :=
    snapOf_bit s.cfg s.pin i
  rw [State.edgeSeen, hsnap]
  exact Bool.xor_self _

theorem exec_edge_twice {s t : State} (h : exec .edge s = .next t) : exec .edge t = .next t := by
  cases h
  simp only [exec_edge, edgeSeen_after_edge]
  rfl

/-- Settles O24: each of these writes values it does not read, and EDGE reads a SNAP that equals the pins. -/
theorem repeatedOperationChangesNothing : Obligations.RepeatedOperationChangesNothing := by
  intro i s t h
  refine ⟨?_, fun _ => ⟨_, exec_read t, rfl⟩⟩
  rintro (rfl | rfl | ⟨te, ae, rfl⟩ | rfl | rfl)
  · rfl
  · obtain ⟨hnone, rfl⟩ := execCompose_next h
    exact exec_compose_of_written hnone
  · cases h
    rfl
  · cases h
    rfl
  · exact exec_edge_twice h

/-- Settles O25: by `exec_next`; a clause is about a register the operation leaves, or names the operation. -/
theorem onlyListedOperationsWrite : Obligations.OnlyListedOperationsWrite := by
  intro i s t h
  obtain ⟨rfl, rfl⟩ | ⟨slot, ch, k, rfl, hk, -, rfl⟩ | ⟨rfl, rfl⟩ | ⟨rfl, -, rfl⟩ | ⟨te, ae, rfl, rfl⟩ | ⟨rfl, rfl⟩ |
    ⟨rfl, rfl⟩ | ⟨rfl, rfl⟩ := exec_next h
  · simp
  · have hslot : ∀ j, k = j → slot.toNat = j.val := fun j hkj => hkj ▸ slotIndex_eq_some_iff.mp hk
    refine ⟨fun j hj => absurd rfl hj, fun h => absurd rfl h, fun _ => .inl ⟨slot, ch, rfl, rfl⟩,
      fun j hj => .inl ⟨slot, ch, rfl, hslot j ?_⟩, fun j hj => absurd rfl hj, fun h => absurd rfl h,
      fun h => absurd rfl h, rfl, rfl, rfl, rfl⟩
    by_contra hkj
    obtain ⟨hsmp, hsmpw⟩ := (s.setChsel (channelOf s.cfg ch)).setSample_of_ne hkj (s.adcSample (channelOf s.cfg ch))
    exact hj.elim (fun hne => hne hsmp) (fun hne => hne hsmpw)
  · simp
  · simp
  · simp
  · cases s.tickEn <;> simp
  · simp
  · simp

/-- Settles O28: without a wire the port has no level there, and the complement does not reach it (`rawButtons_bit`). -/
theorem narrowPortLeavesBitsClear : Obligations.NarrowPortLeavesBitsClear := by
  intro c p a0 a1 n hp hwire hn
  have hport : p.testBit n = false := Nat.testBit_lt_two_pow (hp.trans_le (Nat.pow_le_pow_right (by decide) hwire))
  have hraw : (rawButtons c p).getLsbD n = false := by
    rw [rawButtons_bit c p hn, hport, decide_eq_false hwire.not_gt, Bool.xor_false, ite_self]
  rw [buttons_bit c p a0 a1 hn, hraw, Bool.false_and, Bool.or_false]

end Sys2Proof.Machine
end

section
/-! SUPPORT. More that a run keeps: SNAP until an EDGE (41_debouncer.md section 3), the report until a COMPOSE
(42_report.md R115), the marks of the slots until a reset (10_state.md R26). -/

namespace Sys2Proof.Machine

theorem NeverAlong.or {p q : State → Bool} {n : Nat} {s t : State} (hrun : run n s = .next t)
    (hp : NeverAlong p n s) (hq : NeverAlong q n s) : NeverAlong (fun u => p u || q u) n s := by
  induction n generalizing s with
  | zero => rfl
  | succ n ih =>
    obtain ⟨u, hu, hrun⟩ := run_succ_eq_next hrun
    obtain ⟨hps, hp⟩ := (neverAlong_succ hu).mp hp
    obtain ⟨hqs, hq⟩ := (neverAlong_succ hu).mp hq
    exact (neverAlong_succ hu).mpr ⟨Bool.or_eq_false_iff.mpr ⟨hps, hqs⟩, ih hrun hp hq⟩

/-- SNAP[i] holds the level `b` of the pin that configuration `c` gives channel i. -/
structure State.Sampled (c : Config) (i : Fin 2) (b : Bool) (u : State) : Prop where
  cfg : u.cfg = c
  snapBit : u.snapBit i = b

theorem step_sampled_of_edge {s t : State} (h : step s = .next t) (he : s.commands .edge = true) (i : Fin 2) :
    t.Sampled s.cfg i (toggleLevel s.cfg s.pin i) where
  cfg := step_cfg h
  snapBit := by rw [step_snapBit h, resets_eq_false_of_commands he, if_neg nofun, if_pos he]

theorem step_keeps_sampled {c : Config} {i : Fin 2} {b : Bool} {s t : State} (h : step s = .next t)
    (hquiet : (s.commands .edge || s.resets) = false) (hs : s.Sampled c i b) : t.Sampled c i b := by
  obtain ⟨hedge, hreset⟩ := Bool.or_eq_false_iff.mp hquiet
  refine ⟨(step_cfg h).trans hs.cfg, ?_⟩
  rw [step_snapBit h, hreset, hedge]
  exact hs.snapBit

/-- Settles O38: from one EDGE to the next SNAP holds the levels the first one sampled. -/
theorem edgeComparesSampledLevels : Obligations.EdgeComparesSampledLevels := by
  intro i n s0 s u hedge0 hstep hrun hnoEdge hnoReset hedge
  have hu : u.Sampled s0.cfg i (toggleLevel s0.cfg s0.pin i) :=
    run_keeps (fun _ _ => step_keeps_sampled) hrun (hnoEdge.or hrun hnoReset) (step_sampled_of_edge hstep hedge0 i)
  rw [State.triggers, hedge, Bool.true_and, edgeSeen_iff, hu.cfg, hu.snapBit]
  rfl

theorem reportWord_eq_of_report {s t : State} (h : ∀ j, t.report j = s.report j) : t.reportWord = s.reportWord := by
  rw [State.reportWord, State.reportWord, show t.report3 = s.report3 from h 3, show t.report2 = s.report2 from h 2,
    show t.report1 = s.report1 from h 1, show t.report0 = s.report0 from h 0]

theorem run_shown {n : Nat} {s t : State} (hrun : run n s = .next t)
    (hcompose : NeverAlong (fun u => u.commands .compose) n s) (hreset : NeverAlong State.resets n s) :
    t.shown = s.shown ++ List.replicate (countAlong (fun u => u.cur.rd) n s) s.reportWord := by
  induction n generalizing s with
  | zero => cases hrun; exact (List.append_nil _).symm
  | succ n ih =>
    obtain ⟨u, hu, hrun⟩ := run_succ_eq_next hrun
    obtain ⟨hcs, hcompose⟩ := (neverAlong_succ hu).mp hcompose
    obtain ⟨hrs, hreset⟩ := (neverAlong_succ hu).mp hreset
    have hword : u.reportWord = s.reportWord := reportWord_eq_of_report fun j => by simp [step_report hu, hrs, hcs]
    rw [ih hrun hcompose hreset, hword, step_shown hu, resolvedShown, countAlong_succ _ _ hu]
    cases s.cur.rd
    · simp
    · simp [Nat.add_comm 1, List.replicate_succ]

/-- Settles O39: `run_report` for the bytes, `run_shown` for the words. -/
theorem readsAreStable : Obligations.ReadsAreStable := fun _ _ _ hrun hcompose hreset =>
  ⟨run_report hrun hcompose hreset, run_shown hrun hcompose hreset⟩

theorem resolvedReset_smpw (s : State) (k : Fin 3) : (resolvedReset s).smpw k = false := by
  fin_cases k <;> rfl

theorem resolvedState_smpw (s : State) (i : Instr) (k : Fin 3) : (resolvedState s i).smpw k = resolvedSmpw s k i := by
  fin_cases k <;> rfl

/-- R47 for a mark: cleared at a reset, set at a CONVERT into its slot. -/
theorem step_smpw {s t : State} (h : step s = .next t) (k : Fin 3) :
    t.smpw k = if s.resets then false else s.convertsTo k || s.smpw k := by
  obtain ⟨hr, rfl⟩ | ⟨i, hr, hc, rfl⟩ := step_next_resolved h
  · rw [resolvedReset_smpw, State.resets, if_pos hr]
  · rw [resolvedState_smpw, State.resets, hr, if_neg nofun, State.convertsTo, hr, hc]
    cases i with
    | convert slot ch => simp [resolvedSmpw, slotIndex_eq_some_iff]
    | _ => rfl

/-- Settles O41: by induction over the run, a cycle being `step_smpw`. -/
theorem slotsStayWritten : Obligations.SlotsStayWritten := by
  intro n s t k hrun hreset
  induction n generalizing s with
  | zero => cases hrun; simp [countAlong]
  | succ n ih =>
    obtain ⟨u, hu, hrun⟩ := run_succ_eq_next hrun
    obtain ⟨hrs, hreset⟩ := (neverAlong_succ hu).mp hreset
    rw [ih u hrun hreset, step_smpw hu, hrs, countAlong_succ _ _ hu]
    cases s.convertsTo k <;> simp

end Sys2Proof.Machine
end

section
/-! SUPPORT. A pulse in clock cycles (41_debouncer.md R99): how many applied ticks fall in the next cycles when one comes
every P cycles. -/

namespace Sys2Proof.Machine

/-! ### The strobes one cycle later -/

theorem TicksEvery.head {P d n : Nat} {cs : List Cycle} (h : TicksEvery P d (n + 1) cs) (hd : 1 ≤ d) :
    (cs.headD Cycle.idle).tick = decide (d = 1) := by
  have hfirst : d ≤ 0 + 1 ∧ (0 + 1 - d) % P = 0 ↔ d = 1 :=
    ⟨fun ⟨hle, _⟩ => le_antisymm hle hd, fun h1 => by rw [h1]; exact ⟨le_rfl, Nat.zero_mod P⟩⟩
  have htick := (h 0 n.succ_pos).trans hfirst
  rw [Bool.eq_iff_iff, decide_eq_true_eq, ← htick]
  cases cs <;> rfl

/-- After a cycle with a tick the next one is P cycles away. -/
theorem TicksEvery.tail_of_tick {P n : Nat} {cs : List Cycle} (h : TicksEvery P 1 (n + 1) cs) :
    TicksEvery P P n cs.tail := by
  intro k hk
  rw [List.getElem?_tail, h (k + 1) (Nat.succ_lt_succ hk), Nat.add_sub_cancel]
  constructor
  · rintro ⟨-, hmod⟩
    have hle : P ≤ k + 1 := Nat.le_of_dvd k.succ_pos (Nat.dvd_of_mod_eq_zero hmod)
    exact ⟨hle, Nat.mod_eq_sub_mod hle ▸ hmod⟩
  · rintro ⟨hle, hmod⟩
    exact ⟨Nat.le_add_left _ _, Nat.mod_eq_sub_mod hle ▸ hmod⟩

/-- After a cycle without one it is one cycle nearer. -/
theorem TicksEvery.tail_of_wait {P d n : Nat} {cs : List Cycle} (h : TicksEvery P (d + 1) (n + 1) cs) :
    TicksEvery P d n cs.tail := by
  intro k hk
  rw [List.getElem?_tail, h (k + 1) (Nat.succ_lt_succ hk), Nat.add_sub_add_right, Nat.add_le_add_iff_right]

/-! ### Counting them -/

theorem ticks_eq_decide {P d n : Nat} {s : State} (hd : 1 ≤ d) (hreset : s.resets = false)
    (hen : (!s.tickEn) = false) (hticks : TicksEvery P d (n + 1) s.pending) : s.ticks = decide (d = 1) := by
  have hr : s.cur.rst = false := hreset
  rw [State.ticks, hr, show s.tickEn = true by simpa using hen, ← hticks.head hd, Bool.and_true]
  rfl

theorem countAlong_ticks {P d n : Nat} {s t : State} (hd : 1 ≤ d) (hdP : d ≤ P) (hrun : run n s = .next t)
    (hreset : NeverAlong State.resets n s) (hen : NeverAlong (fun u => !u.tickEn) n s)
    (hticks : TicksEvery P d n s.pending) : countAlong State.ticks n s = (n + P - d) / P := by
  induction n generalizing s d with
  | zero => rw [Nat.div_eq_of_lt (by omega)]; rfl
  | succ n ih =>
    obtain ⟨u, hu, hrun⟩ := run_succ_eq_next hrun
    obtain ⟨hrs, hreset⟩ := (neverAlong_succ hu).mp hreset
    obtain ⟨hes, hen⟩ := (neverAlong_succ hu).mp hen
    have hhead := ticks_eq_decide hd hrs hes hticks
    rw [countAlong_succ _ _ hu, hhead]
    obtain ⟨e, rfl⟩ := Nat.exists_eq_add_of_le' hd
    obtain rfl | he := e.eq_zero_or_pos
    · rw [ih hdP le_rfl hrun hreset hen (step_pending hu ▸ hticks.tail_of_tick), Nat.add_sub_cancel,
        Nat.add_right_comm, Nat.add_sub_cancel, Nat.add_div_right n hdP, Nat.add_comm]
      rfl
    · rw [ih he (by omega) hrun hreset hen (step_pending hu ▸ hticks.tail_of_wait), Nat.add_right_comm,
        Nat.add_sub_add_right, decide_eq_false (by omega), if_neg nofun, Nat.zero_add]

/-- Settles O35: by `pulseLastsItsTicks` ACT is 1 while fewer than PULSE_LENGTH ticks came, and `countAlong_ticks` has
their number; after a trigger in a tick's cycle the first one is P cycles away. -/
theorem pulseLengthInCycles : Obligations.PulseLengthInCycles := by
  intro i P n s0 s t hP _ htrig0 hstep hrun htrig hreset hen
  have hmul : s0.cfg.pulseLength * P = (s0.cfg.pulseLength - 1) * P + P := by
    rw [← Nat.succ_mul, Nat.succ_eq_add_one, Nat.sub_add_cancel (one_le_pulseLength_of_step hstep)]
  have hact : ∀ d, 1 ≤ d → d ≤ P → TicksEvery P d n s.pending →
      ((t.latch i).act = true ↔ n < d + (s0.cfg.pulseLength - 1) * P) := by
    intro d hd hdP hticks
    obtain ⟨-, hact⟩ := pulseLastsItsTicks i n s0 s t htrig0 hstep hrun htrig hreset
    rw [hact, decide_eq_true_eq, countAlong_ticks hd hdP hrun hreset hen hticks, Nat.div_lt_iff_lt_mul hP, hmul]
    omega
  refine ⟨hact, fun hticks => ⟨hticks.head le_rfl, ?_⟩⟩
  rw [hact P hP le_rfl (step_pending hstep ▸ hticks.tail_of_tick), hmul, Nat.add_comm]

end Sys2Proof.Machine
end
